-- ==== Sys2Proof/Word.lean ====
section
/-! DEFINITION. The two word types of the core (00_scope.md R7): the byte of every register and bus
access, and the 16-bit word of SP, PC, the register pairs and every address. -/

namespace Sys2Proof

/-- One byte: an 8-bit register, or one bus access (R7, R80). -/
abbrev Byte := BitVec 8

/-- One 16-bit word: a register pair, SP, PC or a bus address (R7). -/
abbrev Word := BitVec 16

end Sys2Proof
end

