-- ==== Sys2Proof/Config.lean ====
section
/-! DEFINITION. What the spec leaves without a value: the free values. The launch parameters of
00_scope.md R8 that a step reads are fields of the state (`Machine.Params`), so that a claim about every
state is a claim about every launch. -/

namespace Sys2Proof

/-- FREE VALUE (log entry 9). The byte the PPU's fetcher gets for a tile-map index past the end of the
8 KiB VRAM. R507 computes `base + (win_line >> 3) * 32 + ...` with a `win_line` that R524 does not bound,
and states no byte there. -/
opaque Config.vramBeyond : Nat → Byte

end Sys2Proof
end

