-- ==== Sys2Proof/Machine/State.lean ====
section
/-! DEFINITION. The whole state of the core as plain data (10_state.md R30..R73), the reasons a step can
stop, and the state right after reset (70_reset_and_hazards.md R600..R604). -/

namespace Sys2Proof.Machine

/-- A memory array of `w`-bit cells, held sparsely: (index, value) pairs in rising index order with no
entry equal to 0, which is what an unlisted index reads as (`Memory.wf` in Machine/Mem.lean; log entry 4). -/
abbrev Mem (w : Nat) := List (Nat × BitVec w)

/-- A memory array of bytes: a list of `Host.Cell`. -/
abbrev Memory := Mem 8

/-- A 144 × 160 array of 2-bit shades (R61, R522); row `y`, column `x` has the index `y * 160 + x`. -/
abbrev Framebuffer := Mem 2

/-- The fault record of R44. -/
structure FaultRecord where
  opcode : Byte
  addr   : Word
  deriving DecidableEq, Repr

/-- The timer (R47). -/
structure Timer where
  divCounter : Word
  tima       : Byte
  tma        : Byte
  tac        : BitVec 3
  timaAcc    : Nat
  deriving DecidableEq, Repr

/-- The serial unit (R52): SB, the two stored bits of SC, and the cycle accumulator. -/
structure Serial where
  sb        : Byte
  sc7       : Bool
  sc0       : Bool
  serialAcc : Nat
  deriving DecidableEq, Repr

/-- The joypad (R55): the two select bits of P1 (bit 0 is register bit 4, bit 1 is register bit 5) and the
pressed buttons (bits 0..3 A, B, Select, Start; bits 4..7 Right, Left, Up, Down). -/
structure Joypad where
  p1Select : BitVec 2
  pressed  : Byte
  deriving DecidableEq, Repr

/-- The OAM-DMA engine (R58). -/
structure Dma where
  src    : Byte
  active : Bool
  index  : Nat
  acc    : Nat
  deriving DecidableEq, Repr

/-- The PPU modes (R61, R501). -/
inductive Mode where
  | hblank
  | vblank
  | oamScan
  | draw
  deriving DecidableEq, Repr

/-- The states of the background fetcher (R61, R506). -/
inductive FetchState where
  | t0
  | t1
  | l0
  | l1
  | h0
  | h1
  | push
  deriving DecidableEq, Repr

/-- A pixel in a FIFO (R61): color index, shade, and the background-priority bit. -/
structure Pixel where
  ci    : BitVec 2
  shade : BitVec 2
  prio  : Bool
  deriving DecidableEq, Repr

/-- A record of the visible-sprite list (R61, R502): the four OAM bytes and the OAM index. -/
structure Sprite where
  y     : Byte
  x     : Byte
  tile  : Byte
  attr  : Byte
  index : Nat
  deriving DecidableEq, Repr

/-- The PPU (R60..R68): its registers, its two memories and the internal state of R61.
`statSel` is STAT bits 6..3 (bit 3 LYC, bit 2 OAM, bit 1 VBlank, bit 0 HBlank). -/
structure Ppu where
  lcdc        : Byte
  statSel     : BitVec 4
  scy         : Byte
  scx         : Byte
  ly          : Byte
  lyc         : Byte
  bgp         : Byte
  obp0        : Byte
  obp1        : Byte
  wy          : Byte
  wx          : Byte
  vram        : Memory
  oam         : Memory
  mode        : Mode
  lineCycles  : Nat
  coincidence : Bool
  sprites     : List Sprite
  nextSprite  : Nat
  bgFifo      : List Pixel
  objFifo     : List Pixel
  fetchState  : FetchState
  fetchTile   : Byte
  fetchRow    : Nat
  fetchLo     : Byte
  fetchHi     : Byte
  fetchedX    : Nat
  pushedX     : Nat
  discard     : Nat
  warmup      : Nat
  stall       : Nat
  winActive   : Bool
  winCol      : Nat
  winLine     : Nat
  fbCur       : Framebuffer
  fbDone      : Framebuffer
  frameReady  : Bool
  deriving DecidableEq, Repr

/-- The cartridge families (R69, R122). -/
inductive Family where
  | none
  | mbc1
  | mbc2
  | mbc3
  | mbc5
  deriving DecidableEq, Repr

/-- The cartridge (R69). `rom` has the index `bank * 0x4000 + offset` (the image offset, R123), `ram` the
index `bank * 0x2000 + offset`, `rtc` the index `select value - 0x08`, and so has `rtcSel`. -/
structure Cartridge where
  family    : Family
  battery   : Bool
  nrom      : Nat
  rom       : Memory
  nram      : Nat
  ram       : Memory
  mbc2Ram   : Mem 4
  romBank   : Byte
  ramBank   : BitVec 4
  ramEnable : Bool
  rtcSel    : Option (Fin 5)
  rtc       : Memory
  deriving DecidableEq, Repr

/-- What a CPU write to LY does: the launch parameter `ly_write_mode` (R8, R65). -/
inductive LyWriteMode where
  | store
  | zero
  deriving DecidableEq, Repr

/-- The launch parameters that the running core reads (R8, R471). No step writes them. -/
structure Params where
  lyWriteMode     : LyWriteMode
  spriteFetchDots : Nat
  serialObserver  : Bool
  headless        : Bool
  endPc           : Option Word
  deriving DecidableEq, Repr

/-- One answer of the host at a frame boundary: the button field of `poll()` and the
shutdown/pause/reset signal (R470, R474). -/
structure HostAnswer where
  buttons  : Byte
  shutdown : Bool
  deriving DecidableEq, Repr

/-- The host ports of R474 as data: the answers still to come, and what the core has sent (R475). -/
structure HostPorts where
  polls     : List HostAnswer
  serialOut : List Byte
  drawn     : List Framebuffer
  deriving DecidableEq, Repr

end Sys2Proof.Machine

namespace Sys2Proof.Machine

/-- The state of the core (R30..R73). `cycles` and `instrAddr` are the local variables `cycles` and `addr`
of `CpuStep` (60_exceptions.md R401), kept as fields so that an instruction can return its T-cycles and
a decode error can name its opcode's address (log entry 3). -/
structure State where
  a             : Byte
  f             : Byte
  b             : Byte
  c             : Byte
  d             : Byte
  e             : Byte
  h             : Byte
  l             : Byte
  sp            : Word
  pc            : Word
  ime           : Bool
  imeScheduled  : Bool
  halted        : Bool
  haltBug       : Bool
  stopped       : Bool
  ifReg         : BitVec 5
  ieReg         : BitVec 5
  fault         : Option FaultRecord
  wram          : Memory
  hram          : Memory
  bootRom       : Option (List Byte)
  bootVisible   : Bool
  apu           : Memory
  timer         : Timer
  serial        : Serial
  joypad        : Joypad
  dma           : Dma
  ppu           : Ppu
  cart          : Cartridge
  shutdown      : Bool
  params        : Params
  host          : HostPorts
  cycles        : Nat
  instrAddr     : Word
  deriving DecidableEq, Repr

/-- Why a step stops. A step stops only from a state that the spec says takes no step (R472); no
instruction's meaning raises one. Each is safe: the spec gives no next state there. -/
inductive Fault where
  /-- Raised by `engineStep` on a state whose `fault` is set (R386, R472): the run has failed. Safe. -/
  | decodeError (opcode : Byte) (addr : Word)
  /-- Raised by `engineStep` on a state with `stopped` = 1 (R382, R472). Safe. -/
  | stopped
  /-- Raised by `engineStep` on a state with `shutdown` = 1 (R472, R477). Safe. -/
  | shutDown
  deriving DecidableEq, Repr

/-- Why a step has no meaning. -/
inductive Refusal where
  /-- Raised by an arm of `exec` for an instruction that has no meaning yet. No arm raises it. Safe. -/
  | notModelled (mnemonic : String)
  deriving DecidableEq, Repr

/-- The result of an instruction's meaning and of a step. -/
abbrev Result := Host.Outcome State Fault Refusal

/-- The reset PPU (R61, R62..R68, R601): the LCD is off. -/
def Ppu.reset : Ppu where
  lcdc := 0x00
  statSel := 0
  scy := 0x00
  scx := 0x00
  ly := 0x00
  lyc := 0x00
  bgp := 0x00
  obp0 := 0x00
  obp1 := 0x00
  wy := 0x00
  wx := 0x00
  vram := []
  oam := []
  mode := .hblank
  lineCycles := 0
  coincidence := true
  sprites := []
  nextSprite := 0
  bgFifo := []
  objFifo := []
  fetchState := .t0
  fetchTile := 0x00
  fetchRow := 0
  fetchLo := 0x00
  fetchHi := 0x00
  fetchedX := 0
  pushedX := 0
  discard := 0
  warmup := 0
  stall := 0
  winActive := false
  winCol := 0
  winLine := 0
  fbCur := []
  fbDone := []
  frameReady := false

/-- The blank cartridge (log entry 1): no MBC, two ROM banks of 0x00, no RAM, with the register reset
values of R69. -/
def Cartridge.blank : Cartridge where
  family := .none
  battery := false
  nrom := 2
  rom := []
  nram := 0
  ram := []
  mbc2Ram := []
  romBank := 0x01
  ramBank := 0
  ramEnable := false
  rtcSel := none
  rtc := []

/-- The default launch parameters (R8). -/
def Params.default : Params where
  lyWriteMode := .store
  spriteFetchDots := 6
  serialObserver := true
  headless := false
  endPc := none

/-- The boot column of R601: every CPU register zero and every device at its reset value. The boot ROM
itself is put in by `launch`. -/
def State.bootColumn : State where
  a := 0x00
  f := 0x00
  b := 0x00
  c := 0x00
  d := 0x00
  e := 0x00
  h := 0x00
  l := 0x00
  sp := 0x0000
  pc := 0x0000
  ime := false
  imeScheduled := false
  halted := false
  haltBug := false
  stopped := false
  ifReg := 0
  ieReg := 0
  fault := none
  wram := []
  hram := []
  bootRom := none
  bootVisible := true
  apu := []
  timer := ⟨0x0000, 0x00, 0x00, 0, 0⟩
  serial := ⟨0x00, false, false, 0⟩
  joypad := ⟨0, 0x00⟩
  dma := ⟨0x00, false, 0, 0⟩
  ppu := Ppu.reset
  cart := Cartridge.blank
  shutdown := false
  params := Params.default
  host := ⟨[], [], []⟩
  cycles := 0
  instrAddr := 0x0000

/-- The cold column of R601, before the cold-start writes: the values of R31, R34 and R35. -/
def State.coldColumn : State :=
  { State.bootColumn with
    a := 0x01, f := 0xB0, b := 0x00, c := 0x13, d := 0x00, e := 0xD8, h := 0x01, l := 0x4D
    sp := 0xFFFE, pc := 0x0100, bootVisible := false }

/-- The machine right after reset: the cold launch with every launch parameter at its default (R8, R600..R604)
and the blank cartridge (log entries 1 and 2). It is the cold column of R601 with what the writes of R604
leave: the NR bytes in the APU stub, LCDC = 0x91 (so mode OAM_SCAN, R510), TAC = 0, stat_sel = 0 and
BGP = 0xFC. The obligation `ColdStartGivesReset` says that those writes, made through the bus, give this state. -/
def State.reset : State :=
  { State.coldColumn with
    apu :=
      [(0x00, 0x80), (0x01, 0xBF), (0x02, 0xF3), (0x04, 0xBF), (0x06, 0x3F), (0x09, 0xBF),
       (0x0A, 0x7F), (0x0B, 0xFF), (0x0C, 0x9F), (0x0E, 0xBF), (0x10, 0xFF), (0x13, 0xBF),
       (0x14, 0x77), (0x15, 0xF3), (0x16, 0xF1)]
    ppu := { Ppu.reset with lcdc := 0x91, mode := .oamScan, bgp := 0xFC } }

end Sys2Proof.Machine
end

