-- ==== Sys2Proof/Machine/Mem.lean ====
section
/-! DEFINITION. Reading and writing the sparse memory arrays, and their canonical form. -/

namespace Sys2Proof.Machine

/-- The cell at index `a`; an unlisted index reads as 0 (log entry 4). -/
def memRead {w : Nat} : Mem w → Nat → BitVec w
  | [], _ => 0
  | (k, v) :: m, a => if k = a then v else memRead m a

/-- The array without an entry at index `a`. -/
def memErase {w : Nat} : Mem w → Nat → Mem w
  | [], _ => []
  | (k, v) :: m, a => if k = a then memErase m a else (k, v) :: memErase m a

/-- The entry `(a, v)` put in its place in index order. -/
def memInsert {w : Nat} : Mem w → Nat → BitVec w → Mem w
  | [], a, v => [(a, v)]
  | (k, x) :: m, a, v => if a < k then (a, v) :: (k, x) :: m else (k, x) :: memInsert m a v

/-- The array with `v` at index `a`. Writing 0, what an unlisted index reads as, removes the entry, so that
equal arrays are equal lists. -/
def memWrite {w : Nat} (m : Mem w) (a : Nat) (v : BitVec w) : Mem w :=
  if v = 0 then memErase m a else memInsert (memErase m a) a v

/-- The canonical form: indexes strictly rising, no entry equal to 0. -/
def Memory.wf {w : Nat} (m : Mem w) : Bool :=
  decide (m.Pairwise fun x y => x.1 < y.1) && m.all fun x => x.2 != 0

/-- Every index of the array is below `n`. -/
def Memory.within {w : Nat} (n : Nat) (m : Mem w) : Bool :=
  m.all fun x => decide (x.1 < n)

/-- The array whose cells from index `i` on are the bytes of the list. -/
def memOfList {w : Nat} : Nat → List (BitVec w) → Mem w
  | _, [] => []
  | i, v :: vs => if v = 0 then memOfList (i + 1) vs else (i, v) :: memOfList (i + 1) vs

end Sys2Proof.Machine
end

