-- ==== Sys2Proof/Machine/Bits.lean ====
section
/-! DEFINITION. Bit fields, byte order and sign extension (00_scope.md R9, 10_state.md R32,
20_memory.md R100, 30_encoding.md R166). -/

namespace Sys2Proof.Machine

/-- `v[15:8]`. -/
def hi8 (v : Word) : Byte := v.extractLsb' 8 8

/-- `v[7:0]`. -/
def lo8 (v : Word) : Byte := v.extractLsb' 0 8

/-- `hi:lo`, the high part first (R9, R32). -/
def pair (hi lo : Byte) : Word := hi ++ lo

/-- `sext_16(e)` of the signed immediate e8 (R166). -/
def sext16 (e : Byte) : Word := e.signExtend 16

/-- Bit `i` of a byte (R9). -/
def bit (v : Byte) (i : Nat) : Bool := v.getLsbD i

/-- The high-page address `0xFF00 | n` of the LDH forms (R166). -/
def highPage (n : Byte) : Word := 0xFF00#16 ||| n.zeroExtend 16

/-- The shade a palette gives to color index `i`: `(palette >> (2*i)) & 3` (R67, R519). -/
def paletteShade (palette : Byte) (i : BitVec 2) : BitVec 2 := palette.extractLsb' (2 * i.toNat) 2

end Sys2Proof.Machine
end

