-- ==== Sys2Proof/Machine/Cart.lean ====
section
/-! DEFINITION. The cartridge on the bus: ROM and RAM banking and the MBC registers
(20_memory.md R125..R136). Addresses are bus addresses as Nat. -/

namespace Sys2Proof.Machine

/-- The image offset that a read of `a` in 0x0000..0x7FFF shows: bank 0 below 0x4000, the selected bank
modulo the bank count above (R125, R126). -/
def Cartridge.romIndex (k : Cartridge) (a : Nat) : Nat :=
  if a < 0x4000 then a else k.romBank.toNat % k.nrom * 0x4000 + (a - 0x4000)

/-- `CartRomRead(a)` (R125, R126). -/
def Cartridge.romRead (k : Cartridge) (a : Nat) : Byte := memRead k.rom (k.romIndex a)

/-- Whether external RAM is enabled: always for family NONE, else the latch (R132, R134). -/
def Cartridge.ramOn (k : Cartridge) : Bool :=
  match k.family with
  | .none => true
  | .mbc1 | .mbc2 | .mbc3 | .mbc5 => k.ramEnable

/-- The index of bus address `a` in the selected external RAM bank (R132). -/
def Cartridge.ramIndex (k : Cartridge) (a : Nat) : Nat :=
  k.ramBank.toNat % k.nram * 0x2000 + (a - 0xA000)

/-- The MBC2 cell for bus address `a` (R135). -/
def mbc2Cell (a : Nat) : Nat := (a - 0xA000) % 512

/-- The RTC register mapped at 0xA000..0xBFFF, if one is: family MBC3, RAM enabled, one selected
(R132, R133, R136). -/
def Cartridge.rtcMapped (k : Cartridge) : Option (Fin 5) :=
  match k.family with
  | .mbc3 => if k.ramEnable then k.rtcSel else none
  | .none | .mbc1 | .mbc2 | .mbc5 => none

/-- Banked external RAM read: 0xFF when disabled or absent (R132). -/
def Cartridge.bankedRead (k : Cartridge) (a : Nat) : Byte :=
  if k.ramOn = false ∨ k.nram = 0 then 0xFF else memRead k.ram (k.ramIndex a)

/-- Banked external RAM write: ignored when disabled or absent (R133). -/
def Cartridge.bankedWrite (k : Cartridge) (a : Nat) (v : Byte) : Cartridge :=
  if k.ramOn = false ∨ k.nram = 0 then k else { k with ram := memWrite k.ram (k.ramIndex a) v }

/-- `CartRamRead(a)` (R132, R135, R136). -/
def Cartridge.ramRead (k : Cartridge) (a : Nat) : Byte :=
  if k.family = .mbc2 then
    if k.ramEnable then 0xF0#8 ||| (memRead k.mbc2Ram (mbc2Cell a)).zeroExtend 8 else 0xFF
  else match k.rtcMapped with
    | some r => memRead k.rtc r.val
    | none => k.bankedRead a

/-- `CartRamWrite(a, v)` (R133, R135, R136). -/
def Cartridge.ramWrite (k : Cartridge) (a : Nat) (v : Byte) : Cartridge :=
  if k.family = .mbc2 then
    if k.ramEnable then { k with mbc2Ram := memWrite k.mbc2Ram (mbc2Cell a) (v.extractLsb' 0 4) } else k
  else match k.rtcMapped with
    | some r => { k with rtc := memWrite k.rtc r.val v }
    | none => k.bankedWrite a v

/-- The ROM bank mask of a family (R129). Family NONE has no register (R134). -/
def romBankMask : Family → Byte
  | .none => 0x00
  | .mbc1 => 0x1F
  | .mbc2 => 0x0F
  | .mbc3 => 0x7F
  | .mbc5 => 0xFF

/-- ROM bank select (R129): the masked value, zero remapped to 1. -/
def Cartridge.selectRom (k : Cartridge) (v : Byte) : Cartridge :=
  let m := v &&& romBankMask k.family
  { k with romBank := if m = 0 then 1 else m }

/-- The RTC register a select value names (R130). -/
def rtcOf (v : Byte) : Option (Fin 5) :=
  if h : 8 ≤ v.toNat ∧ v.toNat ≤ 12 then some ⟨v.toNat - 8, by omega⟩ else none

/-- RAM bank select (R130). -/
def Cartridge.selectRam (k : Cartridge) (v : Byte) : Cartridge :=
  match k.family with
  | .none | .mbc2 => k
  | .mbc1 => { k with ramBank := (v &&& 0x03).extractLsb' 0 4 }
  | .mbc3 =>
    match rtcOf v with
    | some r => { k with rtcSel := some r }
    | none => { k with rtcSel := none, ramBank := (v &&& 0x03).extractLsb' 0 4 }
  | .mbc5 => { k with ramBank := v.extractLsb' 0 4 }

/-- `CartControlWrite(a, v)` for `a` in 0x0000..0x7FFF (R127..R131, R134): RAM enable, ROM bank, RAM bank,
and the banking-mode region, which every family ignores. -/
def Cartridge.controlWrite (k : Cartridge) (a : Nat) (v : Byte) : Cartridge :=
  if k.family = .none then k
  else if a < 0x2000 then { k with ramEnable := v &&& 0x0F == 0x0A }
  else if a < 0x4000 then k.selectRom v
  else if a < 0x6000 then k.selectRam v
  else k

end Sys2Proof.Machine
end

