-- ==== Sys2Proof/Machine/Joypad.lean ====
section
/-! DEFINITION. The joypad register (10_state.md R56) and the input poll (60_exceptions.md R473). -/

namespace Sys2Proof.Machine

/-- P1 reads `0xC0 | (P1_select << 4) | low` (R56): a clear select bit selects its row, and a pressed
button of a selected row reads 0. -/
def Joypad.readP1 (j : Joypad) : Byte :=
  let dirs : BitVec 4 := if j.p1Select.getLsbD 0 then 0 else j.pressed.extractLsb' 4 4
  let btns : BitVec 4 := if j.p1Select.getLsbD 1 then 0 else j.pressed.extractLsb' 0 4
  let low : BitVec 4 := 0xF#4 &&& ~~~dirs &&& ~~~btns
  0xC0#8 ||| (j.p1Select.zeroExtend 8 <<< 4) ||| low.zeroExtend 8

/-- A P1 write stores `v[5:4]` and requests nothing (R56, R473). -/
def Joypad.writeP1 (j : Joypad) (v : Byte) : Joypad := { j with p1Select := v.extractLsb' 4 2 }

/-- `JoypadPoll(b)` (R473), with the interrupt bits it requests: a rising edge of a selected button. -/
def joypadPoll (buttons : Byte) (j : Joypad) : Joypad × BitVec 5 :=
  let rising := buttons &&& ~~~j.pressed
  let sel : Byte := (if j.p1Select.getLsbD 0 then 0x00 else 0xF0) |||
    (if j.p1Select.getLsbD 1 then 0x00 else 0x0F)
  ({ j with pressed := buttons }, if rising &&& sel = 0 then 0 else 0x10)

end Sys2Proof.Machine
end

