-- ==== Sys2Proof/Machine/Ppu.lean ====
section
/-! DEFINITION. The PPU: its registers with write effects (10_state.md R62..R68, 60_exceptions.md R510,
R513, R514, R528), the mode machine and the pixel pipeline (R500..R526). A function that may request an
interrupt returns the bits it requests beside the new PPU. -/

namespace Sys2Proof.Machine

/-- `lcd_on = LCDC[7]` (R81). -/
def Ppu.lcdOn (p : Ppu) : Bool := bit p.lcdc 7

/-- The STAT code of a mode (R63, R501). -/
def Mode.code : Mode → BitVec 2
  | .hblank => 0
  | .vblank => 1
  | .oamScan => 2
  | .draw => 3

/-- STAT reads `0x80 | (stat_sel << 3) | (coincidence << 2) | mode_code` (R63). -/
def Ppu.readStat (p : Ppu) : Byte :=
  0x80#8 ||| (p.statSel.zeroExtend 8 <<< 3) ||| (if p.coincidence then 0x04#8 else 0) |||
    p.mode.code.zeroExtend 8

/-- What makes the LYC comparison run (R513). -/
inductive LycKind where
  | lyChange
  | lycWrite
  deriving DecidableEq, Repr

/-- `LycCompare(kind)` (R513). -/
def Ppu.lycCompare (kind : LycKind) (p : Ppu) : Ppu × BitVec 5 :=
  let eq := p.ly == p.lyc
  let request := eq && p.statSel.getLsbD 3 && (kind == .lyChange || !p.coincidence)
  ({ p with coincidence := eq }, if request then 0x02 else 0)

/-- `LcdcWrite(v)`: store, then the enable and disable transitions (R62, R510). -/
def Ppu.writeLcdc (p : Ppu) (v : Byte) : Ppu :=
  let was := p.lcdOn
  let p := { p with lcdc := v }
  if was ∧ bit v 7 = false then
    { p with fbCur := [], ly := 0, mode := .hblank, lineCycles := 0, winActive := false,
             coincidence := 0 == p.lyc }
  else if was = false ∧ bit v 7 then
    { p with mode := .oamScan, ly := 0, lineCycles := 0, winActive := false, winLine := 0,
             coincidence := 0 == p.lyc }
  else p

/-- `StatWrite(v)` (R514). -/
def Ppu.writeStat (p : Ppu) (v : Byte) : Ppu × BitVec 5 :=
  ({ p with statSel := v.extractLsb' 3 4 },
   if p.statSel.getLsbD 3 = false ∧ bit v 6 ∧ p.ly = p.lyc then 0x02 else 0)

/-- A CPU write to LY, by the launch parameter `ly_write_mode` (R65, R528). DESIGN CHOICE: it stores whatever
LCDC bit 7 is, although R501 has LY at 0 while the LCD is off (log entry 20). -/
def Ppu.writeLy (m : LyWriteMode) (p : Ppu) (v : Byte) : Ppu × BitVec 5 :=
  Ppu.lycCompare .lyChange { p with ly := match m with
                                          | .store => v
                                          | .zero => 0 }

/-- A write to LYC (R66). -/
def Ppu.writeLyc (p : Ppu) (v : Byte) : Ppu × BitVec 5 := Ppu.lycCompare .lycWrite { p with lyc := v }

/-! ### OAM scan -/

/-- The object height: 16 when LCDC bit 2 is set, else 8 (R62, R502). -/
def Ppu.objSize (p : Ppu) : Nat := if bit p.lcdc 2 then 16 else 8

/-- The OAM record `k` as a sprite (R60, R502). -/
def Ppu.oamRecord (p : Ppu) (k : Nat) : Sprite :=
  ⟨memRead p.oam (4 * k), memRead p.oam (4 * k + 1), memRead p.oam (4 * k + 2),
   memRead p.oam (4 * k + 3), k⟩

/-- Whether a sprite is on the current line: `LY + 16 >= Y and LY + 16 < Y + size` (R502). -/
def Ppu.onLine (p : Ppu) (s : Sprite) : Bool :=
  decide (p.ly.toNat + 16 ≥ s.y.toNat ∧ p.ly.toNat + 16 < s.y.toNat + p.objSize)

/-- A sprite put behind every sprite of smaller or equal X: one step of a stable sort. -/
def insertSprite (s : Sprite) : List Sprite → List Sprite
  | [] => [s]
  | t :: ts => if s.x.toNat < t.x.toNat then s :: t :: ts else t :: insertSprite s ts

/-- `stable_sort(list, key = X ascending)` (R502). -/
def sortSprites (l : List Sprite) : List Sprite := l.foldl (fun acc s => insertSprite s acc) []

/-- `OamScan()` (R502): the first ten records on the line in OAM order, stably sorted by X. -/
def Ppu.oamScan (p : Ppu) : List Sprite :=
  sortSprites ((((List.range 40).map p.oamRecord).filter p.onLine).take 10)

/-- `EnterDraw()` (R503). -/
def Ppu.enterDraw (p : Ppu) : Ppu :=
  { p with mode := .draw, sprites := p.oamScan, nextSprite := 0, bgFifo := [], objFifo := [],
           fetchedX := 0, pushedX := 0, winCol := 0, discard := p.scx.toNat % 8, warmup := 6,
           stall := 0, fetchState := .t0 }

/-! ### The pixel pipeline -/

/-- The PPU's own read of VRAM, never gated (R96). An index past the array is a free value (log entry 9). -/
def Ppu.vramAt (p : Ppu) (i : Nat) : Byte :=
  if i < 0x2000 then memRead p.vram i else Config.vramBeyond i

/-- Pixel `b` of a tile row: `(hi[b] << 1) | lo[b]` (R505, R509). -/
def colorIndex (hi lo : Byte) (b : Nat) : BitVec 2 := BitVec.ofBool (bit hi b) ++ BitVec.ofBool (bit lo b)

/-- The transparent pixel that fills the object FIFO (R505). -/
def Pixel.clear : Pixel := ⟨0, 0, false⟩

/-- The FIFO filled with transparent pixels up to and including `slot` (R505). -/
def fillFifo (fifo : List Pixel) (slot : Nat) : List Pixel :=
  fifo ++ List.replicate (slot + 1 - fifo.length) Pixel.clear

/-- The merge rule of one pixel: overwrite only a transparent slot (R505). -/
def mergePixel (fifo : List Pixel) (slot : Nat) (px : Pixel) : List Pixel :=
  let fifo := fillFifo fifo slot
  if (fifo.getD slot Pixel.clear).ci = 0 then fifo.set slot px else fifo

/-- Pixel `j` (0 leftmost) of a sprite's row data (R505, R519, R520). -/
def spritePixel (p : Ppu) (s : Sprite) (lo hi : Byte) (j : Nat) : Pixel :=
  let ci := colorIndex hi lo (if bit s.attr 5 then j else 7 - j)
  ⟨ci, paletteShade (if bit s.attr 4 then p.obp1 else p.obp0) ci, bit s.attr 7⟩

/-- The tile row of a sprite on the current line, Y-flip applied (R505). -/
def Ppu.spriteRow (p : Ppu) (s : Sprite) : Nat :=
  let row := (p.ly + 16 - s.y).toNat % p.objSize
  if bit s.attr 6 then p.objSize - 1 - row else row

/-- The VRAM offset of a sprite's row (R505): objects always use 0x8000, and an 8×16 object an even tile. -/
def Ppu.spriteAddr (p : Ppu) (s : Sprite) : Nat :=
  (if p.objSize = 16 then (s.tile &&& 0xFE).toNat else s.tile.toNat) * 16 + p.spriteRow s * 2

/-- `MergeSprite(s)` (R505): pixel `j` goes to slot `X - 8 + j - pushed_x` unless that is negative. -/
def Ppu.mergeSprite (p : Ppu) (s : Sprite) : Ppu :=
  let lo := p.vramAt (p.spriteAddr s)
  let hi := p.vramAt (p.spriteAddr s + 1)
  let merge := fun (fifo : List Pixel) (j : Nat) =>
    if s.x.toNat + j < 8 + p.pushedX then fifo
    else mergePixel fifo (s.x.toNat + j - (8 + p.pushedX)) (spritePixel p s lo hi j)
  { p with objFifo := (List.range 8).foldl merge p.objFifo }

/-- `WindowCondition()` (R523). -/
def Ppu.windowCondition (p : Ppu) : Bool :=
  bit p.lcdc 5 && decide (p.wx.toNat ≤ 166) && decide (p.ly.toNat ≥ p.wy.toNat) &&
    decide (p.fetchedX + 7 ≥ p.wx.toNat)

/-- The VRAM offset of a tile map: 0x9C00 or 0x9800 (R62, R507). -/
def tileMapBase (select : Bool) : Nat := if select then 0x1C00 else 0x1800

/-- The tile map's entry and the row within the tile: `TileNumber()` (R507). -/
def Ppu.tileNumber (p : Ppu) : Byte × Nat :=
  if p.winActive then
    (p.vramAt (tileMapBase (bit p.lcdc 6) + p.winLine / 8 * 32 + p.winCol % 32), p.winLine % 8)
  else
    let y := (p.ly + p.scy).toNat
    let col := (p.scx.toNat / 8 + p.fetchedX / 8) % 32
    (p.vramAt (tileMapBase (bit p.lcdc 3) + y / 8 * 32 + col), y % 8)

/-- `TileData(t, row)` as a VRAM offset (R508): unsigned from 0x8000, or signed from 0x9000. -/
def Ppu.tileData (p : Ppu) (t : Byte) (row : Nat) : Nat :=
  if bit p.lcdc 4 then t.toNat * 16 + row * 2
  else ((0x1000 : Int) + t.toInt * 16 + row * 2).toNat

/-- `PushTile()` (R509): eight pixels, bit 7 leftmost, shaded by BGP as it is now. -/
def Ppu.pushTile (p : Ppu) : Ppu :=
  let px := fun (k : Nat) =>
    let ci := colorIndex p.fetchHi p.fetchLo (7 - k)
    (⟨ci, paletteShade p.bgp ci, false⟩ : Pixel)
  { p with bgFifo := (List.range 8).map px, fetchedX := p.fetchedX + 8,
           winCol := if p.winActive then p.winCol + 1 else p.winCol }

/-- `FetcherDot()` (R506). -/
def Ppu.fetcherDot (p : Ppu) : Ppu :=
  match p.fetchState with
  | .t0 => { p with fetchState := .t1 }
  | .t1 =>
    let p := { p with winActive := p.winActive || p.windowCondition }
    { p with fetchTile := p.tileNumber.1, fetchRow := p.tileNumber.2, fetchState := .l0 }
  | .l0 => { p with fetchState := .l1 }
  | .l1 => { p with fetchLo := p.vramAt (p.tileData p.fetchTile p.fetchRow), fetchState := .h0 }
  | .h0 => { p with fetchState := .h1 }
  | .h1 => { p with fetchHi := p.vramAt (p.tileData p.fetchTile p.fetchRow + 1), fetchState := .push }
  | .push => if p.bgFifo.isEmpty then { p.pushTile with fetchState := .t0 } else p

/-- The shade a background pixel and the front object pixel give together (R511): with LCDC bit 0 clear the
background is color 0, shade 0; the object wins when it is not transparent and has priority or covers
background color 0. -/
def Ppu.mixPixel (p : Ppu) (bg : Pixel) (obj : Option Pixel) : BitVec 2 :=
  let ciBg := if bit p.lcdc 0 then bg.ci else 0
  let shade := if bit p.lcdc 0 then bg.shade else 0
  match obj with
  | none => shade
  | some s => if s.ci ≠ 0 ∧ (s.prio = false ∨ ciBg = 0) then s.shade else shade

/-- `OutputDot()` (R511). -/
def Ppu.outputDot (p : Ppu) : Ppu :=
  match p.bgFifo with
  | [] => p
  | bg :: rest =>
    let p := { p with bgFifo := rest }
    if p.discard > 0 then { p with discard := p.discard - 1 }
    else
      let shade := p.mixPixel bg p.objFifo.head?
      { p with objFifo := p.objFifo.tail,
               fbCur := if p.ly.toNat < 144 then memWrite p.fbCur (p.ly.toNat * 160 + p.pushedX) shade
                        else p.fbCur,
               pushedX := p.pushedX + 1 }

/-- The sprite a DRAW dot fetches, if it fetches one (R504): objects on, and the leading unprocessed
sprite's X within `pushed_x + 8`. -/
def Ppu.dueSprite (p : Ppu) : Option Sprite :=
  match p.sprites[p.nextSprite]? with
  | some s => if bit p.lcdc 1 ∧ s.x.toNat ≤ p.pushedX + 8 then some s else none
  | none => none

/-- `DrawDot()` (R504); `dots` is the launch parameter `sprite_fetch_dots`. -/
def Ppu.drawDot (dots : Nat) (p : Ppu) : Ppu :=
  if p.stall > 0 then { p with stall := p.stall - 1 }
  else match p.dueSprite with
    | some s => { p.mergeSprite s with nextSprite := p.nextSprite + 1, stall := dots - 1 }
    | none =>
      if p.warmup > 0 then { p with warmup := p.warmup - 1 }
      else p.fetcherDot.outputDot

/-! ### The mode machine -/

/-- `EnterHblank()` (R512). -/
def Ppu.enterHblank (p : Ppu) : Ppu × BitVec 5 :=
  ({ p with mode := .hblank }, if p.statSel.getLsbD 0 then 0x02 else 0)

/-- `EnterVblank()` (R516). -/
def Ppu.enterVblank (p : Ppu) : Ppu × BitVec 5 :=
  let (p', r) := Ppu.lycCompare .lyChange
    { p with ly := p.ly + 1, winLine := 0, winActive := false, fbDone := p.fbCur, frameReady := true,
             mode := .vblank }
  (p', 0x01 ||| (if p.statSel.getLsbD 1 then 0x02 else 0) ||| r)

/-- `EndLine()` (R515). -/
def Ppu.endLine (p : Ppu) : Ppu × BitVec 5 :=
  if p.ly.toNat < 143 then
    Ppu.lycCompare .lyChange
      { p with ly := p.ly + 1, winLine := if p.winActive then p.winLine + 1 else p.winLine,
               winActive := false, mode := .oamScan }
  else p.enterVblank

/-- `LeaveVblank()` (R518). -/
def Ppu.leaveVblank (p : Ppu) : Ppu × BitVec 5 :=
  let (p', r) := Ppu.lycCompare .lyChange { p with ly := 0, mode := .oamScan }
  (p', r ||| if p.statSel.getLsbD 2 then 0x02 else 0)

/-- `VblankLine()` (R517). -/
def Ppu.vblankLine (p : Ppu) : Ppu × BitVec 5 :=
  if p.ly.toNat < 153 then Ppu.lycCompare .lyChange { p with ly := p.ly + 1 }
  else p.leaveVblank

/-- `PpuDot()` (R500). -/
def Ppu.dot (dots : Nat) (p : Ppu) : Ppu × BitVec 5 :=
  let p := { p with lineCycles := p.lineCycles + 1 }
  match p.mode with
  | .oamScan => (if p.lineCycles ≥ 80 then p.enterDraw else p, 0)
  | .draw =>
    let p := p.drawDot dots
    if p.pushedX ≥ 160 then p.enterHblank else (p, 0)
  | .hblank => if p.lineCycles ≥ 456 then Ppu.endLine { p with lineCycles := 0 } else (p, 0)
  | .vblank => if p.lineCycles ≥ 456 then Ppu.vblankLine { p with lineCycles := 0 } else (p, 0)

/-- `n` dots in a row. -/
def Ppu.dots (dots : Nat) : Nat → Ppu → Ppu × BitVec 5
  | 0, p => (p, 0)
  | n + 1, p =>
    let (p1, r1) := Ppu.dot dots p
    let (p2, r2) := Ppu.dots dots n p1
    (p2, r1 ||| r2)

/-- `PpuStep(c)` (R500): nothing while the LCD is off. -/
def ppuStep (dots c : Nat) (p : Ppu) : Ppu × BitVec 5 :=
  if p.lcdOn then Ppu.dots dots c p else (p, 0)

/-- `take_frame()` (R525): the completed frame, and the flag cleared. -/
def Ppu.takeFrame (p : Ppu) : Framebuffer × Ppu := (p.fbDone, { p with frameReady := false })

end Sys2Proof.Machine
end

