-- ==== Sys2Proof/Machine/Serial.lean ====
section
/-! DEFINITION. The serial unit: SC (10_state.md R54) and its step (60_exceptions.md R450..R452). -/

namespace Sys2Proof.Machine

/-- SC reads `0x7E | (SC7 << 7) | SC0` (R54). -/
def Serial.readSc (u : Serial) : Byte :=
  0x7E#8 ||| (if u.sc7 then 0x80#8 else 0) ||| (if u.sc0 then 0x01#8 else 0)

/-- An SC write stores bits 7 and 0 and sets `serial_acc <- 0` (R54, R450). -/
def Serial.writeSc (u : Serial) (v : Byte) : Serial :=
  { u with sc7 := bit v 7, sc0 := bit v 0, serialAcc := 0 }

/-- What a serial step does outside the unit: the interrupt bits it requests and the byte of a
completed transfer (R452). -/
structure SerialEffect where
  request   : BitVec 5
  completed : Option Byte
  deriving DecidableEq, Repr

/-- `SerialStep(c)` and `SerialComplete()` (R451, R452). -/
def serialStep (c : Nat) (u : Serial) : Serial × SerialEffect :=
  if u.sc7 ∧ u.sc0 then
    if u.serialAcc + c ≥ 4096 then
      ({ u with sb := 0xFF, sc7 := false, serialAcc := 0 }, ⟨0x08, some u.sb⟩)
    else ({ u with serialAcc := u.serialAcc + c }, ⟨0, none⟩)
  else (u, ⟨0, none⟩)

end Sys2Proof.Machine
end

