-- ==== Sys2Proof/Machine/Timer.lean ====
section
/-! DEFINITION. The timer: its registers (10_state.md R48..R51) and its step (60_exceptions.md R440..R443). -/

namespace Sys2Proof.Machine

/-- DIV reads `div_counter[15:8]` (R48). -/
def Timer.readDiv (t : Timer) : Byte := hi8 t.divCounter

/-- Any write to DIV zeroes the whole counter (R48). -/
def Timer.writeDiv (t : Timer) : Timer := { t with divCounter := 0 }

/-- TAC reads `0xF8 | TAC` (R51). -/
def Timer.readTac (t : Timer) : Byte := 0xF8#8 ||| t.tac.zeroExtend 8

/-- A TAC write stores `v & 0x07` (R51). -/
def Timer.writeTac (t : Timer) (v : Byte) : Timer := { t with tac := v.extractLsb' 0 3 }

/-- The TIMA period selected by TAC bits 1..0 (R51). -/
def timaPeriod (tac : BitVec 3) : Nat :=
  match (tac.extractLsb' 0 2).toNat with
  | 0 => 1024
  | 1 => 16
  | 2 => 64
  | _ => 256

/-- `TimaIncrement()` (R442), with the interrupt bits it requests. -/
def timaIncrement (t : Timer) : Timer × BitVec 5 :=
  if t.tima = 0xFF#8 then ({ t with tima := t.tma }, 0x04#5)
  else ({ t with tima := t.tima + 1 }, 0)

/-- `n` increments in a row. -/
def timaIncrements : Nat → Timer → Timer × BitVec 5
  | 0, t => (t, 0)
  | n + 1, t =>
    let (t1, r1) := timaIncrement t
    let (t2, r2) := timaIncrements n t1
    (t2, r1 ||| r2)

/-- `TimerStep(c)` (R441), with the interrupt bits it requests. The loop `while tima_acc >= N` runs
`tima_acc / N` times and leaves `tima_acc mod N`. -/
def timerStep (c : Nat) (t : Timer) : Timer × BitVec 5 :=
  let t := { t with divCounter := t.divCounter + BitVec.ofNat 16 c }
  if t.tac.getLsbD 2 then
    let n := timaPeriod t.tac
    let acc := t.timaAcc + c
    timaIncrements (acc / n) { t with timaAcc := acc % n }
  else (t, 0)

end Sys2Proof.Machine
end

