-- ==== Sys2Proof/Machine/Bus.lean ====
section
/-! DEFINITION. The bus decoder (20_memory.md R80..R98) and the I/O registers behind it (10_state.md R70). -/

namespace Sys2Proof.Machine

/-- `RequestInterrupt(mask)`: `IF <- IF | (mask & 0x1F)` (60_exceptions.md R420). -/
def requestInterrupt (mask : BitVec 5) (s : State) : State := { s with ifReg := s.ifReg ||| mask }

/-- A new PPU put in place, with the interrupt bits it requests. -/
def putPpu (r : Ppu × BitVec 5) (s : State) : State := requestInterrupt r.2 { s with ppu := r.1 }

/-- The I/O registers of the map in R70. -/
inductive IoReg where
  | p1
  | sb
  | sc
  | div
  | tima
  | tma
  | tac
  | ifFlags
  | apu (i : Nat)
  | lcdc
  | stat
  | scy
  | scx
  | ly
  | lyc
  | dma
  | bgp
  | obp0
  | obp1
  | wy
  | wx
  | bootOff
  | unmapped
  deriving DecidableEq, Repr

/-- The register at an address in 0xFF00..0xFF7F (R70, R92, R93). -/
def ioReg (a : Nat) : IoReg :=
  if a = 0xFF00 then .p1
  else if a = 0xFF01 then .sb
  else if a = 0xFF02 then .sc
  else if a = 0xFF04 then .div
  else if a = 0xFF05 then .tima
  else if a = 0xFF06 then .tma
  else if a = 0xFF07 then .tac
  else if a = 0xFF0F then .ifFlags
  else if 0xFF10 ≤ a ∧ a ≤ 0xFF3F then .apu (a - 0xFF10)
  else if a = 0xFF40 then .lcdc
  else if a = 0xFF41 then .stat
  else if a = 0xFF42 then .scy
  else if a = 0xFF43 then .scx
  else if a = 0xFF44 then .ly
  else if a = 0xFF45 then .lyc
  else if a = 0xFF46 then .dma
  else if a = 0xFF47 then .bgp
  else if a = 0xFF48 then .obp0
  else if a = 0xFF49 then .obp1
  else if a = 0xFF4A then .wy
  else if a = 0xFF4B then .wx
  else if a = 0xFF50 then .bootOff
  else .unmapped

/-- `IF` reads `0xE0 | IF` (R42). -/
def readIf (s : State) : Byte := 0xE0#8 ||| s.ifReg.zeroExtend 8

/-- `IE` reads with bits 7..5 as 0 (R43). -/
def readIe (s : State) : Byte := s.ieReg.zeroExtend 8

/-- `IoRead` (R92, R93), by the register's own rule. -/
def ioRead (r : IoReg) (s : State) : Byte :=
  match r with
  | .p1 => s.joypad.readP1
  | .sb => s.serial.sb
  | .sc => s.serial.readSc
  | .div => s.timer.readDiv
  | .tima => s.timer.tima
  | .tma => s.timer.tma
  | .tac => s.timer.readTac
  | .ifFlags => readIf s
  | .apu i => memRead s.apu i
  | .lcdc => s.ppu.lcdc
  | .stat => s.ppu.readStat
  | .scy => s.ppu.scy
  | .scx => s.ppu.scx
  | .ly => s.ppu.ly
  | .lyc => s.ppu.lyc
  | .dma => s.dma.src
  | .bgp => s.ppu.bgp
  | .obp0 => s.ppu.obp0
  | .obp1 => s.ppu.obp1
  | .wy => s.ppu.wy
  | .wx => s.ppu.wx
  | .bootOff => 0xFF
  | .unmapped => 0xFF

/-- `IoWrite` (R92, R93, R98), by the register's own rule. -/
def ioWrite (r : IoReg) (v : Byte) (s : State) : State :=
  match r with
  | .p1 => { s with joypad := s.joypad.writeP1 v }
  | .sb => { s with serial := { s.serial with sb := v } }
  | .sc => { s with serial := s.serial.writeSc v }
  | .div => { s with timer := s.timer.writeDiv }
  | .tima => { s with timer := { s.timer with tima := v } }
  | .tma => { s with timer := { s.timer with tma := v } }
  | .tac => { s with timer := s.timer.writeTac v }
  | .ifFlags => { s with ifReg := v.extractLsb' 0 5 }
  | .apu i => { s with apu := memWrite s.apu i v }
  | .lcdc => { s with ppu := s.ppu.writeLcdc v }
  | .stat => putPpu (s.ppu.writeStat v) s
  | .scy => { s with ppu := { s.ppu with scy := v } }
  | .scx => { s with ppu := { s.ppu with scx := v } }
  | .ly => putPpu (Ppu.writeLy s.params.lyWriteMode s.ppu v) s
  | .lyc => putPpu (s.ppu.writeLyc v) s
  | .dma => { s with dma := ⟨v, true, 0, 0⟩ }
  | .bgp => { s with ppu := { s.ppu with bgp := v } }
  | .obp0 => { s with ppu := { s.ppu with obp0 := v } }
  | .obp1 => { s with ppu := { s.ppu with obp1 := v } }
  | .wy => { s with ppu := { s.ppu with wy := v } }
  | .wx => { s with ppu := { s.ppu with wx := v } }
  | .bootOff => { s with bootVisible := false }
  | .unmapped => s

/-- VRAM is closed to the CPU: the LCD is on and the mode is DRAW (R87). -/
def vramBlocked (s : State) : Bool := s.ppu.lcdOn && s.ppu.mode == .draw

/-- `oam_blocked`: a DMA transfer is active, or the LCD is on in OAM_SCAN or DRAW (R81, R89). -/
def oamBlocked (s : State) : Bool :=
  s.dma.active || (s.ppu.lcdOn && (s.ppu.mode == .oamScan || s.ppu.mode == .draw))

/-- The boot ROM's byte, 0xFF past its length (R81, R83). -/
def bootRead (s : State) (a : Nat) : Byte := (s.bootRom.getD []).getD a 0xFF

/-- What answers at an address: the regions of R80, with the array index or the register each address has.
The boot overlay lies over the start of the ROM region (R83), and echo RAM is work RAM (R85). -/
inductive Region where
  | rom (a : Nat)
  | vram (i : Nat)
  | extRam (a : Nat)
  | wram (i : Nat)
  | oam (i : Nat)
  | unused
  | io (r : IoReg)
  | hram (i : Nat)
  | ie
  deriving DecidableEq, Repr

/-- The address decoder of R80..R82, in its priority order. -/
def region (addr : Word) : Region :=
  let a := addr.toNat
  if a ≤ 0x7FFF then .rom a
  else if a ≤ 0x9FFF then .vram (a - 0x8000)
  else if a ≤ 0xBFFF then .extRam a
  else if a ≤ 0xDFFF then .wram (a - 0xC000)
  else if a ≤ 0xFDFF then .wram (a - 0xE000)
  else if a ≤ 0xFE9F then .oam (a - 0xFE00)
  else if a ≤ 0xFEFF then .unused
  else if a ≤ 0xFF7F then .io (ioReg a)
  else if a ≤ 0xFFFE then .hram (a - 0xFF80)
  else .ie

/-- `BusRead(a)` (R81). -/
def busRead (addr : Word) (s : State) : Byte :=
  match region addr with
  | .rom a => if a ≤ 0x00FF ∧ s.bootVisible = true then bootRead s a else s.cart.romRead a
  | .vram i => if vramBlocked s then 0xFF else memRead s.ppu.vram i
  | .extRam a => s.cart.ramRead a
  | .wram i => memRead s.wram i
  | .oam i => if oamBlocked s then 0xFF else memRead s.ppu.oam i
  | .unused => 0xFF
  | .io r => ioRead r s
  | .hram i => memRead s.hram i
  | .ie => readIe s

/-- `BusWrite(a, v)` (R82). -/
def busWrite (addr : Word) (v : Byte) (s : State) : State :=
  match region addr with
  | .rom a => { s with cart := s.cart.controlWrite a v }
  | .vram i => if vramBlocked s then s else { s with ppu := { s.ppu with vram := memWrite s.ppu.vram i v } }
  | .extRam a => { s with cart := s.cart.ramWrite a v }
  | .wram i => { s with wram := memWrite s.wram i v }
  | .oam i => if oamBlocked s then s else { s with ppu := { s.ppu with oam := memWrite s.ppu.oam i v } }
  | .unused => s
  | .io r => ioWrite r v s
  | .hram i => { s with hram := memWrite s.hram i v }
  | .ie => { s with ieReg := v.extractLsb' 0 5 }

/-- `write_oam(addr, v)`: the DMA engine's ungated entry, `OAM[addr & 0xFF] <- v` (R95). -/
def writeOam (addr : Word) (v : Byte) (s : State) : State :=
  { s with ppu := { s.ppu with oam := memWrite s.ppu.oam (lo8 addr).toNat v } }

end Sys2Proof.Machine
end

