-- ==== Sys2Proof/Machine/Ops.lean ====
section
/-! DEFINITION. The named operations of the CPU: instruction fetch (10_state.md R36), register pairs (R32),
the stack (20_memory.md R102, R103), taking an interrupt and returning from one (60_exceptions.md R421,
R425), the decode error (45_system.md R386), HALT's release and EI's commit (60_exceptions.md R402, R404). -/

namespace Sys2Proof.Machine

/-- `cycles <- cycles + n` (R401, R645). -/
def tick (n : Nat) (s : State) : State := { s with cycles := s.cycles + n }

/-- `IE & IF & 0x1F` (R401). -/
def pending (s : State) : BitVec 5 := s.ieReg &&& s.ifReg

/-- `Fetch8()` (R36): the halt bug is consumed in place of advancing PC. -/
def fetch8 (s : State) : Byte × State :=
  (busRead s.pc s, if s.haltBug then { s with haltBug := false } else { s with pc := s.pc + 1 })

/-! ### Register pairs (R32) -/

/-- `BC = B:C`. -/
def getBc (s : State) : Word := pair s.b s.c
/-- `DE = D:E`. -/
def getDe (s : State) : Word := pair s.d s.e
/-- `HL = H:L`. -/
def getHl (s : State) : Word := pair s.h s.l
/-- `AF = A:F`. -/
def getAf (s : State) : Word := pair s.a s.f

/-- `BC <- v`. -/
def setBc (v : Word) (s : State) : State := { s with b := hi8 v, c := lo8 v }
/-- `DE <- v`. -/
def setDe (v : Word) (s : State) : State := { s with d := hi8 v, e := lo8 v }
/-- `HL <- v`. -/
def setHl (v : Word) (s : State) : State := { s with h := hi8 v, l := lo8 v }
/-- `AF <- v`: the write to F keeps bits 3..0 at zero (R33). -/
def setAf (v : Word) (s : State) : State := { s with a := hi8 v, f := lo8 v &&& 0xF0 }

/-! ### The stack -/

/-- `Push16(v)` (R102): high byte at SP - 1 first, then the low byte at SP - 2. -/
def push16 (v : Word) (s : State) : State :=
  let s := { s with sp := s.sp - 1 }
  let s := busWrite s.sp (hi8 v) s
  let s := { s with sp := s.sp - 1 }
  busWrite s.sp (lo8 v) s

/-- `Pop16()` (R103). -/
def pop16 (s : State) : Word × State :=
  let lo := busRead s.sp s
  let s := { s with sp := s.sp + 1 }
  let hi := busRead s.sp s
  (pair hi lo, { s with sp := s.sp + 1 })

/-! ### Interrupts and the decode error -/

/-- The index of the lowest set bit of `pending`: VBlank, STAT, Timer, Serial, Joypad (R421, R423). -/
def lowestBit (p : BitVec 5) : Nat :=
  if p.getLsbD 0 then 0
  else if p.getLsbD 1 then 1
  else if p.getLsbD 2 then 2
  else if p.getLsbD 3 then 3
  else 4

/-- The vector of interrupt `i`: `0x0040 + 8 * i` (R421). -/
def vector (i : Nat) : Word := 0x0040#16 + BitVec.ofNat 16 (8 * i)

/-- TAKING AN EXCEPTION: `Dispatch(pending)` (R421). IME and ime_scheduled are cleared, the taken bit of IF is
cleared, PC is pushed, PC goes to the vector, and 20 T-cycles are counted. -/
def takeInterrupt (p : BitVec 5) (s : State) : State :=
  let i := lowestBit p
  let s := { s with ime := false, imeScheduled := false, ifReg := s.ifReg &&& ~~~(1#5 <<< i) }
  let s := push16 s.pc s
  tick 20 { s with pc := vector i }

/-- THE RETURN FROM AN EXCEPTION: pop PC and set IME at once (R360, R425). -/
def returnFromInterrupt (s : State) : State :=
  let (target, s) := pop16 s
  { s with pc := target, ime := true }

/-- The decode error (R386): the fault record with the opcode and its address; no cycles are credited. -/
def takeDecodeError (opcode : Byte) (s : State) : State :=
  { s with fault := some ⟨opcode, s.instrAddr⟩, cycles := 0 }

/-- The halt release at the start of a CPU step (R401, R402). -/
def releaseHalt (s : State) : State :=
  if s.halted ∧ pending s ≠ 0 then { s with halted := false } else s

/-- The dispatch at the start of a CPU step, when IME = 1 and an interrupt is pending (R401, R421). -/
def dispatchPending (s : State) : State :=
  if s.ime ∧ pending s ≠ 0 then takeInterrupt (pending s) s else s

/-- The EI commit at the end of a CPU step (R401, R404). -/
def commitEi (wasScheduled : Bool) (s : State) : State :=
  if wasScheduled ∧ s.imeScheduled then { s with ime := true, imeScheduled := false } else s

end Sys2Proof.Machine
end

