-- ==== Sys2Proof/Syntax.lean ====
section
/-! DEFINITION. The instructions of the SM83 core (30_encoding.md R160..R173): one constructor for each row
of spec/opcode_table.json, its immediate operand as an argument, and the operand kinds the encoding names. -/

namespace Sys2Proof

/-- The 3-bit operand field `r` (R163), in encoding order; `atHl` is the byte at HL. -/
inductive R8 where
  | b | c | d | e | h | l | atHl | a
  deriving DecidableEq, Repr

/-- The register-pair field `rr` (R164), in encoding order. -/
inductive RR where
  | bc | de | hl | sp
  deriving DecidableEq, Repr

/-- The register-pair field `qq` of PUSH and POP (R164), in encoding order. -/
inductive QQ where
  | bc | de | hl | af
  deriving DecidableEq, Repr

/-- The condition field `cc` (R165), in encoding order. -/
inductive Cond where
  | nz | z | nc | c
  deriving DecidableEq, Repr

/-- The accumulator operations (R168, R250), in encoding order. -/
inductive AluOp where
  | add | adc | sub | sbc | and | xor | or | cp
  deriving DecidableEq, Repr

/-- The rotates, shifts and SWAP (R169), in encoding order. -/
inductive RotOp where
  | rlc | rrc | rl | rr | sla | sra | swap | srl
  deriving DecidableEq, Repr

/-- The instructions. In a name, `AtHl` is the operand `(HL)`, `AtHli` is `(HL+)`, `AtHld` is `(HL-)`.
The eleven `illegal` constructors are the opcodes of R172, and `prefixCb` is the prefix byte by itself
(R161, R385). The rows with an immediate stand first: compiled code has few tags for constructors with
fields. -/
inductive Instr where
  | ldBcN16 (n : Word)
  | ldBN8 (n : Byte)
  | ldAtA16Sp (a : Word)
  | ldCN8 (n : Byte)
  | stopN8 (n : Byte)
  | ldDeN16 (n : Word)
  | ldDN8 (n : Byte)
  | jrE8 (e : Byte)
  | ldEN8 (n : Byte)
  | jrNzE8 (e : Byte)
  | ldHlN16 (n : Word)
  | ldHN8 (n : Byte)
  | jrZE8 (e : Byte)
  | ldLN8 (n : Byte)
  | jrNcE8 (e : Byte)
  | ldSpN16 (n : Word)
  | ldAtHlN8 (n : Byte)
  | jrCE8 (e : Byte)
  | ldAN8 (n : Byte)
  | jpNzA16 (a : Word)
  | jpA16 (a : Word)
  | callNzA16 (a : Word)
  | addAN8 (n : Byte)
  | jpZA16 (a : Word)
  | callZA16 (a : Word)
  | callA16 (a : Word)
  | adcAN8 (n : Byte)
  | jpNcA16 (a : Word)
  | callNcA16 (a : Word)
  | subAN8 (n : Byte)
  | jpCA16 (a : Word)
  | callCA16 (a : Word)
  | sbcAN8 (n : Byte)
  | ldhAtA8A (a : Byte)
  | andAN8 (n : Byte)
  | addSpE8 (e : Byte)
  | ldAtA16A (a : Word)
  | xorAN8 (n : Byte)
  | ldhAAtA8 (a : Byte)
  | orAN8 (n : Byte)
  | ldHlSpE8 (e : Byte)
  | ldAAtA16 (a : Word)
  | cpAN8 (n : Byte)
  | nop
  | ldAtBcA
  | incBc
  | incB
  | decB
  | rlca
  | addHlBc
  | ldAAtBc
  | decBc
  | incC
  | decC
  | rrca
  | ldAtDeA
  | incDe
  | incD
  | decD
  | rla
  | addHlDe
  | ldAAtDe
  | decDe
  | incE
  | decE
  | rra
  | ldAtHliA
  | incHl
  | incH
  | decH
  | daa
  | addHlHl
  | ldAAtHli
  | decHl
  | incL
  | decL
  | cpl
  | ldAtHldA
  | incSp
  | incAtHl
  | decAtHl
  | scf
  | addHlSp
  | ldAAtHld
  | decSp
  | incA
  | decA
  | ccf
  | ldBB
  | ldBC
  | ldBD
  | ldBE
  | ldBH
  | ldBL
  | ldBAtHl
  | ldBA
  | ldCB
  | ldCC
  | ldCD
  | ldCE
  | ldCH
  | ldCL
  | ldCAtHl
  | ldCA
  | ldDB
  | ldDC
  | ldDD
  | ldDE
  | ldDH
  | ldDL
  | ldDAtHl
  | ldDA
  | ldEB
  | ldEC
  | ldED
  | ldEE
  | ldEH
  | ldEL
  | ldEAtHl
  | ldEA
  | ldHB
  | ldHC
  | ldHD
  | ldHE
  | ldHH
  | ldHL
  | ldHAtHl
  | ldHA
  | ldLB
  | ldLC
  | ldLD
  | ldLE
  | ldLH
  | ldLL
  | ldLAtHl
  | ldLA
  | ldAtHlB
  | ldAtHlC
  | ldAtHlD
  | ldAtHlE
  | ldAtHlH
  | ldAtHlL
  | halt
  | ldAtHlA
  | ldAB
  | ldAC
  | ldAD
  | ldAE
  | ldAH
  | ldAL
  | ldAAtHl
  | ldAA
  | addAB
  | addAC
  | addAD
  | addAE
  | addAH
  | addAL
  | addAAtHl
  | addAA
  | adcAB
  | adcAC
  | adcAD
  | adcAE
  | adcAH
  | adcAL
  | adcAAtHl
  | adcAA
  | subAB
  | subAC
  | subAD
  | subAE
  | subAH
  | subAL
  | subAAtHl
  | subAA
  | sbcAB
  | sbcAC
  | sbcAD
  | sbcAE
  | sbcAH
  | sbcAL
  | sbcAAtHl
  | sbcAA
  | andAB
  | andAC
  | andAD
  | andAE
  | andAH
  | andAL
  | andAAtHl
  | andAA
  | xorAB
  | xorAC
  | xorAD
  | xorAE
  | xorAH
  | xorAL
  | xorAAtHl
  | xorAA
  | orAB
  | orAC
  | orAD
  | orAE
  | orAH
  | orAL
  | orAAtHl
  | orAA
  | cpAB
  | cpAC
  | cpAD
  | cpAE
  | cpAH
  | cpAL
  | cpAAtHl
  | cpAA
  | retNz
  | popBc
  | pushBc
  | rst00
  | retZ
  | ret
  | prefixCb
  | rst08
  | retNc
  | popDe
  | illegalD3
  | pushDe
  | rst10
  | retC
  | reti
  | illegalDB
  | illegalDD
  | rst18
  | popHl
  | ldhAtCA
  | illegalE3
  | illegalE4
  | pushHl
  | rst20
  | jpHl
  | illegalEB
  | illegalEC
  | illegalED
  | rst28
  | popAf
  | ldhAAtC
  | di
  | illegalF4
  | pushAf
  | rst30
  | ldSpHl
  | ei
  | illegalFC
  | illegalFD
  | rst38
  | rlcB
  | rlcC
  | rlcD
  | rlcE
  | rlcH
  | rlcL
  | rlcAtHl
  | rlcA
  | rrcB
  | rrcC
  | rrcD
  | rrcE
  | rrcH
  | rrcL
  | rrcAtHl
  | rrcA
  | rlB
  | rlC
  | rlD
  | rlE
  | rlH
  | rlL
  | rlAtHl
  | rlA
  | rrB
  | rrC
  | rrD
  | rrE
  | rrH
  | rrL
  | rrAtHl
  | rrA
  | slaB
  | slaC
  | slaD
  | slaE
  | slaH
  | slaL
  | slaAtHl
  | slaA
  | sraB
  | sraC
  | sraD
  | sraE
  | sraH
  | sraL
  | sraAtHl
  | sraA
  | swapB
  | swapC
  | swapD
  | swapE
  | swapH
  | swapL
  | swapAtHl
  | swapA
  | srlB
  | srlC
  | srlD
  | srlE
  | srlH
  | srlL
  | srlAtHl
  | srlA
  | bit0B
  | bit0C
  | bit0D
  | bit0E
  | bit0H
  | bit0L
  | bit0AtHl
  | bit0A
  | bit1B
  | bit1C
  | bit1D
  | bit1E
  | bit1H
  | bit1L
  | bit1AtHl
  | bit1A
  | bit2B
  | bit2C
  | bit2D
  | bit2E
  | bit2H
  | bit2L
  | bit2AtHl
  | bit2A
  | bit3B
  | bit3C
  | bit3D
  | bit3E
  | bit3H
  | bit3L
  | bit3AtHl
  | bit3A
  | bit4B
  | bit4C
  | bit4D
  | bit4E
  | bit4H
  | bit4L
  | bit4AtHl
  | bit4A
  | bit5B
  | bit5C
  | bit5D
  | bit5E
  | bit5H
  | bit5L
  | bit5AtHl
  | bit5A
  | bit6B
  | bit6C
  | bit6D
  | bit6E
  | bit6H
  | bit6L
  | bit6AtHl
  | bit6A
  | bit7B
  | bit7C
  | bit7D
  | bit7E
  | bit7H
  | bit7L
  | bit7AtHl
  | bit7A
  | res0B
  | res0C
  | res0D
  | res0E
  | res0H
  | res0L
  | res0AtHl
  | res0A
  | res1B
  | res1C
  | res1D
  | res1E
  | res1H
  | res1L
  | res1AtHl
  | res1A
  | res2B
  | res2C
  | res2D
  | res2E
  | res2H
  | res2L
  | res2AtHl
  | res2A
  | res3B
  | res3C
  | res3D
  | res3E
  | res3H
  | res3L
  | res3AtHl
  | res3A
  | res4B
  | res4C
  | res4D
  | res4E
  | res4H
  | res4L
  | res4AtHl
  | res4A
  | res5B
  | res5C
  | res5D
  | res5E
  | res5H
  | res5L
  | res5AtHl
  | res5A
  | res6B
  | res6C
  | res6D
  | res6E
  | res6H
  | res6L
  | res6AtHl
  | res6A
  | res7B
  | res7C
  | res7D
  | res7E
  | res7H
  | res7L
  | res7AtHl
  | res7A
  | set0B
  | set0C
  | set0D
  | set0E
  | set0H
  | set0L
  | set0AtHl
  | set0A
  | set1B
  | set1C
  | set1D
  | set1E
  | set1H
  | set1L
  | set1AtHl
  | set1A
  | set2B
  | set2C
  | set2D
  | set2E
  | set2H
  | set2L
  | set2AtHl
  | set2A
  | set3B
  | set3C
  | set3D
  | set3E
  | set3H
  | set3L
  | set3AtHl
  | set3A
  | set4B
  | set4C
  | set4D
  | set4E
  | set4H
  | set4L
  | set4AtHl
  | set4A
  | set5B
  | set5C
  | set5D
  | set5E
  | set5H
  | set5L
  | set5AtHl
  | set5A
  | set6B
  | set6C
  | set6D
  | set6E
  | set6H
  | set6L
  | set6AtHl
  | set6A
  | set7B
  | set7C
  | set7D
  | set7E
  | set7H
  | set7L
  | set7AtHl
  | set7A
  deriving DecidableEq, Repr

end Sys2Proof
end

