-- ==== Sys2Proof/Machine/Operands.lean ====
section
/-! DEFINITION. Every operand form: the 8-bit operand `r` (30_encoding.md R163, 40_loads.md R200), the
register pairs (R164) and the conditions (R165, 44_control.md R350). -/

namespace Sys2Proof.Machine

/-- `ReadR8(r)` (R200): a register, or the byte at HL through the bus. -/
def readR8 (r : R8) (s : State) : Byte :=
  match r with
  | .b => s.b
  | .c => s.c
  | .d => s.d
  | .e => s.e
  | .h => s.h
  | .l => s.l
  | .atHl => busRead (getHl s) s
  | .a => s.a

/-- `WriteR8(r, v)` (R200). -/
def writeR8 (r : R8) (v : Byte) (s : State) : State :=
  match r with
  | .b => { s with b := v }
  | .c => { s with c := v }
  | .d => { s with d := v }
  | .e => { s with e := v }
  | .h => { s with h := v }
  | .l => { s with l := v }
  | .atHl => busWrite (getHl s) v s
  | .a => { s with a := v }

/-- The value of the pair field `rr` (R164). -/
def readRr (r : RR) (s : State) : Word :=
  match r with
  | .bc => getBc s
  | .de => getDe s
  | .hl => getHl s
  | .sp => s.sp

/-- A write of the pair field `rr` (R32, R164). -/
def writeRr (r : RR) (v : Word) (s : State) : State :=
  match r with
  | .bc => setBc v s
  | .de => setDe v s
  | .hl => setHl v s
  | .sp => { s with sp := v }

/-- The value of the pair field `qq` of PUSH (R164). -/
def readQq (q : QQ) (s : State) : Word :=
  match q with
  | .bc => getBc s
  | .de => getDe s
  | .hl => getHl s
  | .af => getAf s

/-- A write of the pair field `qq` of POP (R164); AF masks the low nibble of F (R228). -/
def writeQq (q : QQ) (v : Word) (s : State) : State :=
  match q with
  | .bc => setBc v s
  | .de => setDe v s
  | .hl => setHl v s
  | .af => setAf v s

end Sys2Proof.Machine
end

