-- ==== Sys2Proof/Machine/Flags.lean ====
section
/-! DEFINITION. Every flag computation: the layout of F (10_state.md R33), the carry and borrow primitives
(41_alu8.md R251), the ALU, the rotates and shifts (43_rotate_shift_bit.md), DAA, the 16-bit sums
(42_alu16.md) and the conditions (44_control.md R350). -/

namespace Sys2Proof.Machine

/-- F with the flags Z, N, H, C in bits 7, 6, 5, 4 and bits 3..0 zero (R33). -/
def packFlags (z n h c : Bool) : Byte :=
  (if z then 0x80#8 else 0) ||| (if n then 0x40#8 else 0) ||| (if h then 0x20#8 else 0) |||
    (if c then 0x10#8 else 0)

/-- FZ, bit 7 of F (R33). -/
def flagZ (s : State) : Bool := bit s.f 7
/-- FN, bit 6 of F (R33). -/
def flagN (s : State) : Bool := bit s.f 6
/-- FH, bit 5 of F (R33). -/
def flagH (s : State) : Bool := bit s.f 5
/-- FC, bit 4 of F (R33). -/
def flagC (s : State) : Bool := bit s.f 4

/-- All four flags written at once. An instruction that leaves a flag unchanged passes its old value. -/
def setFlags (z n h c : Bool) (s : State) : State := { s with f := packFlags z n h c }

/-- `Cond(cc)` (R350). -/
def holds (cc : Cond) (s : State) : Bool :=
  match cc with
  | .nz => !flagZ s
  | .z => flagZ s
  | .nc => !flagC s
  | .c => flagC s

/-! ### Carry and borrow on unbounded integers (R251) -/

/-- Carry out of bit 3. -/
def carry4 (a b : Byte) (c : Bool) : Bool := decide (a.toNat % 16 + b.toNat % 16 + c.toNat > 0xF)
/-- Carry out of bit 7. -/
def carry8 (a b : Byte) (c : Bool) : Bool := decide (a.toNat + b.toNat + c.toNat > 0xFF)
/-- Borrow into bit 4. -/
def borrow4 (a b : Byte) (c : Bool) : Bool := decide (a.toNat % 16 < b.toNat % 16 + c.toNat)
/-- Borrow out of bit 7. -/
def borrow8 (a b : Byte) (c : Bool) : Bool := decide (a.toNat < b.toNat + c.toNat)

/-- A carry flag as the number added. -/
def carryIn (c : Bool) : Byte := if c then 1 else 0

/-! ### The accumulator operations (R252..R259) -/

/-- A result with the four flags it gives. -/
structure Flagged where
  res : Byte
  z   : Bool
  n   : Bool
  h   : Bool
  c   : Bool
  deriving DecidableEq, Repr

/-- `a + v + c` with the flags of ADD and ADC (R252, R253). -/
def addFlagged (a v : Byte) (c : Bool) : Flagged :=
  let r := a + v + carryIn c
  ⟨r, r == 0, false, carry4 a v c, carry8 a v c⟩

/-- `a - v - c` with the flags of SUB, SBC and CP (R254, R255, R259). -/
def subFlagged (a v : Byte) (c : Bool) : Flagged :=
  let r := a - v - carryIn c
  ⟨r, r == 0, true, borrow4 a v c, borrow8 a v c⟩

/-- A logic result: Z from it, N and C clear, H as given (R256..R258). -/
def logicFlagged (r : Byte) (h : Bool) : Flagged := ⟨r, r == 0, false, h, false⟩

/-- The result and flags of `op A,v` with carry flag `c`. -/
def aluFlagged (op : AluOp) (a v : Byte) (c : Bool) : Flagged :=
  match op with
  | .add => addFlagged a v false
  | .adc => addFlagged a v c
  | .sub => subFlagged a v false
  | .sbc => subFlagged a v c
  | .and => logicFlagged (a &&& v) true
  | .xor => logicFlagged (a ^^^ v) false
  | .or => logicFlagged (a ||| v) false
  | .cp => subFlagged a v false

/-- `op A,v`: A takes the result, except under CP, and F takes the flags. -/
def alu (op : AluOp) (v : Byte) (s : State) : State :=
  let r := aluFlagged op s.a v (flagC s)
  let s := setFlags r.z r.n r.h r.c s
  match op with
  | .cp => s
  | .add | .adc | .sub | .sbc | .and | .xor | .or => { s with a := r.res }

/-- INC: the result with Z, N = 0 and H; C is passed through (R260, R261). -/
def incFlagged (v : Byte) (c : Bool) : Flagged :=
  let r := v + 1
  ⟨r, r == 0, false, v.toNat % 16 == 0xF, c⟩

/-- DEC: the result with Z, N = 1 and H; C is passed through (R262, R263). -/
def decFlagged (v : Byte) (c : Bool) : Flagged :=
  let r := v - 1
  ⟨r, r == 0, true, v.toNat % 16 == 0x0, c⟩

/-- DAA (R264): all conditions read the values from before the instruction. -/
def daaFlagged (a : Byte) (n h c : Bool) : Flagged :=
  if n then
    let adj : Byte := (if h then 0x06#8 else 0) ||| (if c then 0x60#8 else 0)
    let r := a - adj
    ⟨r, r == 0, n, false, c⟩
  else
    let low := h || decide (a.toNat % 16 > 0x09)
    let high := c || decide (a.toNat > 0x99)
    let adj : Byte := (if low then 0x06#8 else 0) ||| (if high then 0x60#8 else 0)
    let r := a + adj
    ⟨r, r == 0, n, false, high⟩

/-! ### Rotates and shifts (R311..R322) -/

/-- The result of a rotate, shift or SWAP and the bit it sends to C; `c` is the carry flag before. -/
def rotate (k : RotOp) (v : Byte) (c : Bool) : Byte × Bool :=
  match k with
  | .rlc => (v <<< 1 ||| carryIn (bit v 7), bit v 7)
  | .rrc => (v >>> 1 ||| carryIn (bit v 0) <<< 7, bit v 0)
  | .rl => (v <<< 1 ||| carryIn c, bit v 7)
  | .rr => (v >>> 1 ||| carryIn c <<< 7, bit v 0)
  | .sla => (v <<< 1, bit v 7)
  | .sra => (v >>> 1 ||| v &&& 0x80, bit v 0)
  | .swap => (v <<< 4 ||| v >>> 4, false)
  | .srl => (v >>> 1, bit v 0)

/-! ### The 16-bit sums (R290, R294) -/

/-- Carry out of bit 11 (R290). -/
def carry12 (a b : Word) : Bool := decide (a.toNat % 0x1000 + b.toNat % 0x1000 > 0x0FFF)
/-- Carry out of bit 15 (R290). -/
def carry16 (a b : Word) : Bool := decide (a.toNat + b.toNat > 0xFFFF)

/-- `SpPlusE8(sp, e)` (R294): the sum with the sign-extended offset, and H and C of the unsigned low-byte
addition. -/
def spPlusE8 (sp : Word) (e : Byte) : Word × Bool × Bool :=
  (sp + sext16 e, decide (sp.toNat % 16 + e.toNat % 16 > 0x0F),
   decide (sp.toNat % 256 + e.toNat > 0xFF))

end Sys2Proof.Machine
end

