-- ==== Sys2Proof/Machine/Alu16.lean ====
section
/-! DEFINITION. The 16-bit arithmetic instructions (42_alu16.md R290..R294): the shared operations, then one
meaning for each row. -/

namespace Sys2Proof.Machine

/-- `ADD HL,rr` (R290): Z is unchanged, N clear, H from bit 11, C from bit 15. -/
def addHl (v : Word) (s : State) : State :=
  setFlags (flagZ s) false (carry12 (getHl s) v) (carry16 (getHl s) v) (setHl (getHl s + v) s)

/-- `INC rr` and `DEC rr` (R291, R292): `delta` is added and no flag changes. -/
def addRr (r : RR) (delta : Word) (s : State) : State := writeRr r (readRr r s + delta) s

/-- `ADD SP,e8` (R293). -/
def addSp (e : Byte) (s : State) : State :=
  let (v, h, c) := spPlusE8 s.sp e
  setFlags false false h c { s with sp := v }

/-- `ADD HL,BC` (R290). -/
def execAddHlBc (s : State) : Result := .next (tick 8 (addHl (readRr .bc s) s))

/-- `ADD HL,DE` (R290). -/
def execAddHlDe (s : State) : Result := .next (tick 8 (addHl (readRr .de s) s))

/-- `ADD HL,HL` (R290). -/
def execAddHlHl (s : State) : Result := .next (tick 8 (addHl (readRr .hl s) s))

/-- `ADD HL,SP` (R290). -/
def execAddHlSp (s : State) : Result := .next (tick 8 (addHl (readRr .sp s) s))

/-- `INC BC` (R291). -/
def execIncBc (s : State) : Result := .next (tick 8 (addRr .bc 1 s))

/-- `INC DE` (R291). -/
def execIncDe (s : State) : Result := .next (tick 8 (addRr .de 1 s))

/-- `INC HL` (R291). -/
def execIncHl (s : State) : Result := .next (tick 8 (addRr .hl 1 s))

/-- `INC SP` (R291). -/
def execIncSp (s : State) : Result := .next (tick 8 (addRr .sp 1 s))

/-- `DEC BC` (R292). -/
def execDecBc (s : State) : Result := .next (tick 8 (addRr .bc (-1) s))

/-- `DEC DE` (R292). -/
def execDecDe (s : State) : Result := .next (tick 8 (addRr .de (-1) s))

/-- `DEC HL` (R292). -/
def execDecHl (s : State) : Result := .next (tick 8 (addRr .hl (-1) s))

/-- `DEC SP` (R292). -/
def execDecSp (s : State) : Result := .next (tick 8 (addRr .sp (-1) s))

/-- `ADD SP,e8` (R293). -/
def execAddSpE8 (e : Byte) (s : State) : Result := .next (tick 16 (addSp e s))

end Sys2Proof.Machine
end

