-- ==== Sys2Proof/Machine/Alu8.lean ====
section
/-! DEFINITION. The 8-bit arithmetic and logic instructions (41_alu8.md R250..R267): the shared operations,
then one meaning for each row. -/

namespace Sys2Proof.Machine

/-- `op A,r` (R250): the second operand is a register or the byte at HL. -/
def aluR8 (op : AluOp) (r : R8) (s : State) : State := alu op (readR8 r s) s

/-- `INC r` and `INC (HL)` (R260, R261): C is unchanged. -/
def incR8 (r : R8) (s : State) : State :=
  let x := incFlagged (readR8 r s) (flagC s)
  setFlags x.z x.n x.h x.c (writeR8 r x.res s)

/-- `DEC r` and `DEC (HL)` (R262, R263): C is unchanged. -/
def decR8 (r : R8) (s : State) : State :=
  let x := decFlagged (readR8 r s) (flagC s)
  setFlags x.z x.n x.h x.c (writeR8 r x.res s)

/-- DAA (R264). -/
def decimalAdjust (s : State) : State :=
  let x := daaFlagged s.a (flagN s) (flagH s) (flagC s)
  setFlags x.z x.n x.h x.c { s with a := x.res }

/-- `ADD A,B` (R252). -/
def execAddAB (s : State) : Result := .next (tick 4 (aluR8 .add .b s))

/-- `ADD A,C` (R252). -/
def execAddAC (s : State) : Result := .next (tick 4 (aluR8 .add .c s))

/-- `ADD A,D` (R252). -/
def execAddAD (s : State) : Result := .next (tick 4 (aluR8 .add .d s))

/-- `ADD A,E` (R252). -/
def execAddAE (s : State) : Result := .next (tick 4 (aluR8 .add .e s))

/-- `ADD A,H` (R252). -/
def execAddAH (s : State) : Result := .next (tick 4 (aluR8 .add .h s))

/-- `ADD A,L` (R252). -/
def execAddAL (s : State) : Result := .next (tick 4 (aluR8 .add .l s))

/-- `ADD A,(HL)` (R252). -/
def execAddAAtHl (s : State) : Result := .next (tick 8 (aluR8 .add .atHl s))

/-- `ADD A,A` (R252). -/
def execAddAA (s : State) : Result := .next (tick 4 (aluR8 .add .a s))

/-- `ADC A,B` (R253). -/
def execAdcAB (s : State) : Result := .next (tick 4 (aluR8 .adc .b s))

/-- `ADC A,C` (R253). -/
def execAdcAC (s : State) : Result := .next (tick 4 (aluR8 .adc .c s))

/-- `ADC A,D` (R253). -/
def execAdcAD (s : State) : Result := .next (tick 4 (aluR8 .adc .d s))

/-- `ADC A,E` (R253). -/
def execAdcAE (s : State) : Result := .next (tick 4 (aluR8 .adc .e s))

/-- `ADC A,H` (R253). -/
def execAdcAH (s : State) : Result := .next (tick 4 (aluR8 .adc .h s))

/-- `ADC A,L` (R253). -/
def execAdcAL (s : State) : Result := .next (tick 4 (aluR8 .adc .l s))

/-- `ADC A,(HL)` (R253). -/
def execAdcAAtHl (s : State) : Result := .next (tick 8 (aluR8 .adc .atHl s))

/-- `ADC A,A` (R253). -/
def execAdcAA (s : State) : Result := .next (tick 4 (aluR8 .adc .a s))

/-- `SUB A,B` (R254). -/
def execSubAB (s : State) : Result := .next (tick 4 (aluR8 .sub .b s))

/-- `SUB A,C` (R254). -/
def execSubAC (s : State) : Result := .next (tick 4 (aluR8 .sub .c s))

/-- `SUB A,D` (R254). -/
def execSubAD (s : State) : Result := .next (tick 4 (aluR8 .sub .d s))

/-- `SUB A,E` (R254). -/
def execSubAE (s : State) : Result := .next (tick 4 (aluR8 .sub .e s))

/-- `SUB A,H` (R254). -/
def execSubAH (s : State) : Result := .next (tick 4 (aluR8 .sub .h s))

/-- `SUB A,L` (R254). -/
def execSubAL (s : State) : Result := .next (tick 4 (aluR8 .sub .l s))

/-- `SUB A,(HL)` (R254). -/
def execSubAAtHl (s : State) : Result := .next (tick 8 (aluR8 .sub .atHl s))

/-- `SUB A,A` (R254). -/
def execSubAA (s : State) : Result := .next (tick 4 (aluR8 .sub .a s))

/-- `SBC A,B` (R255). -/
def execSbcAB (s : State) : Result := .next (tick 4 (aluR8 .sbc .b s))

/-- `SBC A,C` (R255). -/
def execSbcAC (s : State) : Result := .next (tick 4 (aluR8 .sbc .c s))

/-- `SBC A,D` (R255). -/
def execSbcAD (s : State) : Result := .next (tick 4 (aluR8 .sbc .d s))

/-- `SBC A,E` (R255). -/
def execSbcAE (s : State) : Result := .next (tick 4 (aluR8 .sbc .e s))

/-- `SBC A,H` (R255). -/
def execSbcAH (s : State) : Result := .next (tick 4 (aluR8 .sbc .h s))

/-- `SBC A,L` (R255). -/
def execSbcAL (s : State) : Result := .next (tick 4 (aluR8 .sbc .l s))

/-- `SBC A,(HL)` (R255). -/
def execSbcAAtHl (s : State) : Result := .next (tick 8 (aluR8 .sbc .atHl s))

/-- `SBC A,A` (R255). -/
def execSbcAA (s : State) : Result := .next (tick 4 (aluR8 .sbc .a s))

/-- `AND A,B` (R256). -/
def execAndAB (s : State) : Result := .next (tick 4 (aluR8 .and .b s))

/-- `AND A,C` (R256). -/
def execAndAC (s : State) : Result := .next (tick 4 (aluR8 .and .c s))

/-- `AND A,D` (R256). -/
def execAndAD (s : State) : Result := .next (tick 4 (aluR8 .and .d s))

/-- `AND A,E` (R256). -/
def execAndAE (s : State) : Result := .next (tick 4 (aluR8 .and .e s))

/-- `AND A,H` (R256). -/
def execAndAH (s : State) : Result := .next (tick 4 (aluR8 .and .h s))

/-- `AND A,L` (R256). -/
def execAndAL (s : State) : Result := .next (tick 4 (aluR8 .and .l s))

/-- `AND A,(HL)` (R256). -/
def execAndAAtHl (s : State) : Result := .next (tick 8 (aluR8 .and .atHl s))

/-- `AND A,A` (R256). -/
def execAndAA (s : State) : Result := .next (tick 4 (aluR8 .and .a s))

/-- `XOR A,B` (R257). -/
def execXorAB (s : State) : Result := .next (tick 4 (aluR8 .xor .b s))

/-- `XOR A,C` (R257). -/
def execXorAC (s : State) : Result := .next (tick 4 (aluR8 .xor .c s))

/-- `XOR A,D` (R257). -/
def execXorAD (s : State) : Result := .next (tick 4 (aluR8 .xor .d s))

/-- `XOR A,E` (R257). -/
def execXorAE (s : State) : Result := .next (tick 4 (aluR8 .xor .e s))

/-- `XOR A,H` (R257). -/
def execXorAH (s : State) : Result := .next (tick 4 (aluR8 .xor .h s))

/-- `XOR A,L` (R257). -/
def execXorAL (s : State) : Result := .next (tick 4 (aluR8 .xor .l s))

/-- `XOR A,(HL)` (R257). -/
def execXorAAtHl (s : State) : Result := .next (tick 8 (aluR8 .xor .atHl s))

/-- `XOR A,A` (R257). -/
def execXorAA (s : State) : Result := .next (tick 4 (aluR8 .xor .a s))

/-- `OR A,B` (R258). -/
def execOrAB (s : State) : Result := .next (tick 4 (aluR8 .or .b s))

/-- `OR A,C` (R258). -/
def execOrAC (s : State) : Result := .next (tick 4 (aluR8 .or .c s))

/-- `OR A,D` (R258). -/
def execOrAD (s : State) : Result := .next (tick 4 (aluR8 .or .d s))

/-- `OR A,E` (R258). -/
def execOrAE (s : State) : Result := .next (tick 4 (aluR8 .or .e s))

/-- `OR A,H` (R258). -/
def execOrAH (s : State) : Result := .next (tick 4 (aluR8 .or .h s))

/-- `OR A,L` (R258). -/
def execOrAL (s : State) : Result := .next (tick 4 (aluR8 .or .l s))

/-- `OR A,(HL)` (R258). -/
def execOrAAtHl (s : State) : Result := .next (tick 8 (aluR8 .or .atHl s))

/-- `OR A,A` (R258). -/
def execOrAA (s : State) : Result := .next (tick 4 (aluR8 .or .a s))

/-- `CP A,B` (R259). -/
def execCpAB (s : State) : Result := .next (tick 4 (aluR8 .cp .b s))

/-- `CP A,C` (R259). -/
def execCpAC (s : State) : Result := .next (tick 4 (aluR8 .cp .c s))

/-- `CP A,D` (R259). -/
def execCpAD (s : State) : Result := .next (tick 4 (aluR8 .cp .d s))

/-- `CP A,E` (R259). -/
def execCpAE (s : State) : Result := .next (tick 4 (aluR8 .cp .e s))

/-- `CP A,H` (R259). -/
def execCpAH (s : State) : Result := .next (tick 4 (aluR8 .cp .h s))

/-- `CP A,L` (R259). -/
def execCpAL (s : State) : Result := .next (tick 4 (aluR8 .cp .l s))

/-- `CP A,(HL)` (R259). -/
def execCpAAtHl (s : State) : Result := .next (tick 8 (aluR8 .cp .atHl s))

/-- `CP A,A` (R259). -/
def execCpAA (s : State) : Result := .next (tick 4 (aluR8 .cp .a s))

/-- `ADD A,n8` (R252). -/
def execAddAN8 (n : Byte) (s : State) : Result := .next (tick 8 (alu .add n s))

/-- `ADC A,n8` (R253). -/
def execAdcAN8 (n : Byte) (s : State) : Result := .next (tick 8 (alu .adc n s))

/-- `SUB A,n8` (R254). -/
def execSubAN8 (n : Byte) (s : State) : Result := .next (tick 8 (alu .sub n s))

/-- `SBC A,n8` (R255). -/
def execSbcAN8 (n : Byte) (s : State) : Result := .next (tick 8 (alu .sbc n s))

/-- `AND A,n8` (R256). -/
def execAndAN8 (n : Byte) (s : State) : Result := .next (tick 8 (alu .and n s))

/-- `XOR A,n8` (R257). -/
def execXorAN8 (n : Byte) (s : State) : Result := .next (tick 8 (alu .xor n s))

/-- `OR A,n8` (R258). -/
def execOrAN8 (n : Byte) (s : State) : Result := .next (tick 8 (alu .or n s))

/-- `CP A,n8` (R259). -/
def execCpAN8 (n : Byte) (s : State) : Result := .next (tick 8 (alu .cp n s))

/-- `INC B` (R260). -/
def execIncB (s : State) : Result := .next (tick 4 (incR8 .b s))

/-- `INC C` (R260). -/
def execIncC (s : State) : Result := .next (tick 4 (incR8 .c s))

/-- `INC D` (R260). -/
def execIncD (s : State) : Result := .next (tick 4 (incR8 .d s))

/-- `INC E` (R260). -/
def execIncE (s : State) : Result := .next (tick 4 (incR8 .e s))

/-- `INC H` (R260). -/
def execIncH (s : State) : Result := .next (tick 4 (incR8 .h s))

/-- `INC L` (R260). -/
def execIncL (s : State) : Result := .next (tick 4 (incR8 .l s))

/-- `INC (HL)` (R261). -/
def execIncAtHl (s : State) : Result := .next (tick 12 (incR8 .atHl s))

/-- `INC A` (R260). -/
def execIncA (s : State) : Result := .next (tick 4 (incR8 .a s))

/-- `DEC B` (R262). -/
def execDecB (s : State) : Result := .next (tick 4 (decR8 .b s))

/-- `DEC C` (R262). -/
def execDecC (s : State) : Result := .next (tick 4 (decR8 .c s))

/-- `DEC D` (R262). -/
def execDecD (s : State) : Result := .next (tick 4 (decR8 .d s))

/-- `DEC E` (R262). -/
def execDecE (s : State) : Result := .next (tick 4 (decR8 .e s))

/-- `DEC H` (R262). -/
def execDecH (s : State) : Result := .next (tick 4 (decR8 .h s))

/-- `DEC L` (R262). -/
def execDecL (s : State) : Result := .next (tick 4 (decR8 .l s))

/-- `DEC (HL)` (R263). -/
def execDecAtHl (s : State) : Result := .next (tick 12 (decR8 .atHl s))

/-- `DEC A` (R262). -/
def execDecA (s : State) : Result := .next (tick 4 (decR8 .a s))

/-- `DAA` (R264). -/
def execDaa (s : State) : Result := .next (tick 4 (decimalAdjust s))

/-- `CPL` (R265). -/
def execCpl (s : State) : Result := .next (tick 4 (setFlags (flagZ s) true true (flagC s) { s with a := ~~~s.a }))

/-- `SCF` (R266). -/
def execScf (s : State) : Result := .next (tick 4 (setFlags (flagZ s) false false true s))

/-- `CCF` (R267). -/
def execCcf (s : State) : Result := .next (tick 4 (setFlags (flagZ s) false false (!flagC s) s))

end Sys2Proof.Machine
end

