-- ==== Sys2Proof/Machine/Control.lean ====
section
/-! DEFINITION. The control transfers (44_control.md R350..R361): the shared operations, then one meaning for
each row. PC is the address after the instruction when a meaning runs. -/

namespace Sys2Proof.Machine

/-- `pc <- target`. -/
def jumpTo (target : Word) (s : State) : State := { s with pc := target }

/-- `pc <- (PC + sext_16(e)) & 0xFFFF` (R354). -/
def jumpRelative (e : Byte) (s : State) : State := jumpTo (s.pc + sext16 e) s

/-- `Push16(PC); pc <- target` (R356, R361). -/
def callTo (target : Word) (s : State) : State := jumpTo target (push16 s.pc s)

/-- `pc <- Pop16()` (R358). -/
def returnTo (s : State) : State :=
  let (target, s) := pop16 s
  jumpTo target s

/-- A conditional transfer (R350): `taken` cycles and the transfer when the condition holds, `notTaken`
cycles and nothing else when it does not. -/
def branch (cc : Cond) (taken notTaken : Nat) (s transferred : State) : State :=
  if holds cc s then tick taken transferred else tick notTaken s

/-- `JP a16` (R351). -/
def execJpA16 (a : Word) (s : State) : Result := .next (tick 16 (jumpTo a s))

/-- `JP NZ,a16` (R352). -/
def execJpNzA16 (a : Word) (s : State) : Result := .next (branch .nz 16 12 s (jumpTo a s))

/-- `JP Z,a16` (R352). -/
def execJpZA16 (a : Word) (s : State) : Result := .next (branch .z 16 12 s (jumpTo a s))

/-- `JP NC,a16` (R352). -/
def execJpNcA16 (a : Word) (s : State) : Result := .next (branch .nc 16 12 s (jumpTo a s))

/-- `JP C,a16` (R352). -/
def execJpCA16 (a : Word) (s : State) : Result := .next (branch .c 16 12 s (jumpTo a s))

/-- `JP HL` (R353). -/
def execJpHl (s : State) : Result := .next (tick 4 (jumpTo (getHl s) s))

/-- `JR e8` (R354). -/
def execJrE8 (e : Byte) (s : State) : Result := .next (tick 12 (jumpRelative e s))

/-- `JR NZ,e8` (R355). -/
def execJrNzE8 (e : Byte) (s : State) : Result := .next (branch .nz 12 8 s (jumpRelative e s))

/-- `JR Z,e8` (R355). -/
def execJrZE8 (e : Byte) (s : State) : Result := .next (branch .z 12 8 s (jumpRelative e s))

/-- `JR NC,e8` (R355). -/
def execJrNcE8 (e : Byte) (s : State) : Result := .next (branch .nc 12 8 s (jumpRelative e s))

/-- `JR C,e8` (R355). -/
def execJrCE8 (e : Byte) (s : State) : Result := .next (branch .c 12 8 s (jumpRelative e s))

/-- `CALL a16` (R356). -/
def execCallA16 (a : Word) (s : State) : Result := .next (tick 24 (callTo a s))

/-- `CALL NZ,a16` (R357). -/
def execCallNzA16 (a : Word) (s : State) : Result := .next (branch .nz 24 12 s (callTo a s))

/-- `CALL Z,a16` (R357). -/
def execCallZA16 (a : Word) (s : State) : Result := .next (branch .z 24 12 s (callTo a s))

/-- `CALL NC,a16` (R357). -/
def execCallNcA16 (a : Word) (s : State) : Result := .next (branch .nc 24 12 s (callTo a s))

/-- `CALL C,a16` (R357). -/
def execCallCA16 (a : Word) (s : State) : Result := .next (branch .c 24 12 s (callTo a s))

/-- `RET` (R358). -/
def execRet (s : State) : Result := .next (tick 16 (returnTo s))

/-- `RET NZ` (R359). -/
def execRetNz (s : State) : Result := .next (branch .nz 20 8 s (returnTo s))

/-- `RET Z` (R359). -/
def execRetZ (s : State) : Result := .next (branch .z 20 8 s (returnTo s))

/-- `RET NC` (R359). -/
def execRetNc (s : State) : Result := .next (branch .nc 20 8 s (returnTo s))

/-- `RET C` (R359). -/
def execRetC (s : State) : Result := .next (branch .c 20 8 s (returnTo s))

/-- `RETI` (R360). -/
def execReti (s : State) : Result := .next (tick 16 (returnFromInterrupt s))

/-- `RST 0x00` (R361). -/
def execRst00 (s : State) : Result := .next (tick 16 (callTo 0x0000 s))

/-- `RST 0x08` (R361). -/
def execRst08 (s : State) : Result := .next (tick 16 (callTo 0x0008 s))

/-- `RST 0x10` (R361). -/
def execRst10 (s : State) : Result := .next (tick 16 (callTo 0x0010 s))

/-- `RST 0x18` (R361). -/
def execRst18 (s : State) : Result := .next (tick 16 (callTo 0x0018 s))

/-- `RST 0x20` (R361). -/
def execRst20 (s : State) : Result := .next (tick 16 (callTo 0x0020 s))

/-- `RST 0x28` (R361). -/
def execRst28 (s : State) : Result := .next (tick 16 (callTo 0x0028 s))

/-- `RST 0x30` (R361). -/
def execRst30 (s : State) : Result := .next (tick 16 (callTo 0x0030 s))

/-- `RST 0x38` (R361). -/
def execRst38 (s : State) : Result := .next (tick 16 (callTo 0x0038 s))

end Sys2Proof.Machine
end

