-- ==== Sys2Proof/Machine/Load.lean ====
section
/-! DEFINITION. The loads, stores and stack instructions (40_loads.md R202..R228): the shared operations, then
one meaning for each row. -/

namespace Sys2Proof.Machine

/-- `x[dst] <- x[r]`, either operand possibly the byte at HL (R202, R204, R205). -/
def copyR8 (dst r : R8) (s : State) : State := writeR8 dst (readR8 r s) s

/-- `A <- MemRead(addr, 1)` (R207, R208, R215, R217, R219). -/
def loadA (addr : Word) (s : State) : State := { s with a := busRead addr s }

/-- `MemWrite(addr, 1, A)` (R209, R210, R216, R218, R220). -/
def storeA (addr : Word) (s : State) : State := busWrite addr s.a s

/-- `LD A,(HL+)` and `LD A,(HL-)` (R211, R212): `delta` is added to HL after the load. -/
def loadAStep (delta : Word) (s : State) : State := setHl (getHl s + delta) (loadA (getHl s) s)

/-- `LD (HL+),A` and `LD (HL-),A` (R213, R214): `delta` is added to HL after the store. -/
def storeAStep (delta : Word) (s : State) : State := setHl (getHl s + delta) (storeA (getHl s) s)

/-- `MemWrite(a, 1, SP[7:0]); MemWrite(a + 1, 1, SP[15:8])` (R222). -/
def storeSp (addr : Word) (s : State) : State :=
  busWrite (addr + 1) (hi8 s.sp) (busWrite addr (lo8 s.sp) s)

/-- `LD HL,SP+e8` (R224): Z and N clear, H and C of the low-byte addition. -/
def loadHlSp (e : Byte) (s : State) : State :=
  let (v, h, c) := spPlusE8 s.sp e
  setFlags false false h c (setHl v s)

/-- `Push16(qq)` (R225, R226). -/
def pushQq (q : QQ) (s : State) : State := push16 (readQq q s) s

/-- `qq <- Pop16()` (R227, R228). -/
def popQq (q : QQ) (s : State) : State :=
  let (v, s) := pop16 s
  writeQq q v s

/-- `LD B,B` (R202). -/
def execLdBB (s : State) : Result := .next (tick 4 (copyR8 .b .b s))

/-- `LD B,C` (R202). -/
def execLdBC (s : State) : Result := .next (tick 4 (copyR8 .b .c s))

/-- `LD B,D` (R202). -/
def execLdBD (s : State) : Result := .next (tick 4 (copyR8 .b .d s))

/-- `LD B,E` (R202). -/
def execLdBE (s : State) : Result := .next (tick 4 (copyR8 .b .e s))

/-- `LD B,H` (R202). -/
def execLdBH (s : State) : Result := .next (tick 4 (copyR8 .b .h s))

/-- `LD B,L` (R202). -/
def execLdBL (s : State) : Result := .next (tick 4 (copyR8 .b .l s))

/-- `LD B,(HL)` (R204). -/
def execLdBAtHl (s : State) : Result := .next (tick 8 (copyR8 .b .atHl s))

/-- `LD B,A` (R202). -/
def execLdBA (s : State) : Result := .next (tick 4 (copyR8 .b .a s))

/-- `LD C,B` (R202). -/
def execLdCB (s : State) : Result := .next (tick 4 (copyR8 .c .b s))

/-- `LD C,C` (R202). -/
def execLdCC (s : State) : Result := .next (tick 4 (copyR8 .c .c s))

/-- `LD C,D` (R202). -/
def execLdCD (s : State) : Result := .next (tick 4 (copyR8 .c .d s))

/-- `LD C,E` (R202). -/
def execLdCE (s : State) : Result := .next (tick 4 (copyR8 .c .e s))

/-- `LD C,H` (R202). -/
def execLdCH (s : State) : Result := .next (tick 4 (copyR8 .c .h s))

/-- `LD C,L` (R202). -/
def execLdCL (s : State) : Result := .next (tick 4 (copyR8 .c .l s))

/-- `LD C,(HL)` (R204). -/
def execLdCAtHl (s : State) : Result := .next (tick 8 (copyR8 .c .atHl s))

/-- `LD C,A` (R202). -/
def execLdCA (s : State) : Result := .next (tick 4 (copyR8 .c .a s))

/-- `LD D,B` (R202). -/
def execLdDB (s : State) : Result := .next (tick 4 (copyR8 .d .b s))

/-- `LD D,C` (R202). -/
def execLdDC (s : State) : Result := .next (tick 4 (copyR8 .d .c s))

/-- `LD D,D` (R202). -/
def execLdDD (s : State) : Result := .next (tick 4 (copyR8 .d .d s))

/-- `LD D,E` (R202). -/
def execLdDE (s : State) : Result := .next (tick 4 (copyR8 .d .e s))

/-- `LD D,H` (R202). -/
def execLdDH (s : State) : Result := .next (tick 4 (copyR8 .d .h s))

/-- `LD D,L` (R202). -/
def execLdDL (s : State) : Result := .next (tick 4 (copyR8 .d .l s))

/-- `LD D,(HL)` (R204). -/
def execLdDAtHl (s : State) : Result := .next (tick 8 (copyR8 .d .atHl s))

/-- `LD D,A` (R202). -/
def execLdDA (s : State) : Result := .next (tick 4 (copyR8 .d .a s))

/-- `LD E,B` (R202). -/
def execLdEB (s : State) : Result := .next (tick 4 (copyR8 .e .b s))

/-- `LD E,C` (R202). -/
def execLdEC (s : State) : Result := .next (tick 4 (copyR8 .e .c s))

/-- `LD E,D` (R202). -/
def execLdED (s : State) : Result := .next (tick 4 (copyR8 .e .d s))

/-- `LD E,E` (R202). -/
def execLdEE (s : State) : Result := .next (tick 4 (copyR8 .e .e s))

/-- `LD E,H` (R202). -/
def execLdEH (s : State) : Result := .next (tick 4 (copyR8 .e .h s))

/-- `LD E,L` (R202). -/
def execLdEL (s : State) : Result := .next (tick 4 (copyR8 .e .l s))

/-- `LD E,(HL)` (R204). -/
def execLdEAtHl (s : State) : Result := .next (tick 8 (copyR8 .e .atHl s))

/-- `LD E,A` (R202). -/
def execLdEA (s : State) : Result := .next (tick 4 (copyR8 .e .a s))

/-- `LD H,B` (R202). -/
def execLdHB (s : State) : Result := .next (tick 4 (copyR8 .h .b s))

/-- `LD H,C` (R202). -/
def execLdHC (s : State) : Result := .next (tick 4 (copyR8 .h .c s))

/-- `LD H,D` (R202). -/
def execLdHD (s : State) : Result := .next (tick 4 (copyR8 .h .d s))

/-- `LD H,E` (R202). -/
def execLdHE (s : State) : Result := .next (tick 4 (copyR8 .h .e s))

/-- `LD H,H` (R202). -/
def execLdHH (s : State) : Result := .next (tick 4 (copyR8 .h .h s))

/-- `LD H,L` (R202). -/
def execLdHL (s : State) : Result := .next (tick 4 (copyR8 .h .l s))

/-- `LD H,(HL)` (R204). -/
def execLdHAtHl (s : State) : Result := .next (tick 8 (copyR8 .h .atHl s))

/-- `LD H,A` (R202). -/
def execLdHA (s : State) : Result := .next (tick 4 (copyR8 .h .a s))

/-- `LD L,B` (R202). -/
def execLdLB (s : State) : Result := .next (tick 4 (copyR8 .l .b s))

/-- `LD L,C` (R202). -/
def execLdLC (s : State) : Result := .next (tick 4 (copyR8 .l .c s))

/-- `LD L,D` (R202). -/
def execLdLD (s : State) : Result := .next (tick 4 (copyR8 .l .d s))

/-- `LD L,E` (R202). -/
def execLdLE (s : State) : Result := .next (tick 4 (copyR8 .l .e s))

/-- `LD L,H` (R202). -/
def execLdLH (s : State) : Result := .next (tick 4 (copyR8 .l .h s))

/-- `LD L,L` (R202). -/
def execLdLL (s : State) : Result := .next (tick 4 (copyR8 .l .l s))

/-- `LD L,(HL)` (R204). -/
def execLdLAtHl (s : State) : Result := .next (tick 8 (copyR8 .l .atHl s))

/-- `LD L,A` (R202). -/
def execLdLA (s : State) : Result := .next (tick 4 (copyR8 .l .a s))

/-- `LD (HL),B` (R205). -/
def execLdAtHlB (s : State) : Result := .next (tick 8 (copyR8 .atHl .b s))

/-- `LD (HL),C` (R205). -/
def execLdAtHlC (s : State) : Result := .next (tick 8 (copyR8 .atHl .c s))

/-- `LD (HL),D` (R205). -/
def execLdAtHlD (s : State) : Result := .next (tick 8 (copyR8 .atHl .d s))

/-- `LD (HL),E` (R205). -/
def execLdAtHlE (s : State) : Result := .next (tick 8 (copyR8 .atHl .e s))

/-- `LD (HL),H` (R205). -/
def execLdAtHlH (s : State) : Result := .next (tick 8 (copyR8 .atHl .h s))

/-- `LD (HL),L` (R205). -/
def execLdAtHlL (s : State) : Result := .next (tick 8 (copyR8 .atHl .l s))

/-- `LD (HL),A` (R205). -/
def execLdAtHlA (s : State) : Result := .next (tick 8 (copyR8 .atHl .a s))

/-- `LD A,B` (R202). -/
def execLdAB (s : State) : Result := .next (tick 4 (copyR8 .a .b s))

/-- `LD A,C` (R202). -/
def execLdAC (s : State) : Result := .next (tick 4 (copyR8 .a .c s))

/-- `LD A,D` (R202). -/
def execLdAD (s : State) : Result := .next (tick 4 (copyR8 .a .d s))

/-- `LD A,E` (R202). -/
def execLdAE (s : State) : Result := .next (tick 4 (copyR8 .a .e s))

/-- `LD A,H` (R202). -/
def execLdAH (s : State) : Result := .next (tick 4 (copyR8 .a .h s))

/-- `LD A,L` (R202). -/
def execLdAL (s : State) : Result := .next (tick 4 (copyR8 .a .l s))

/-- `LD A,(HL)` (R204). -/
def execLdAAtHl (s : State) : Result := .next (tick 8 (copyR8 .a .atHl s))

/-- `LD A,A` (R202). -/
def execLdAA (s : State) : Result := .next (tick 4 (copyR8 .a .a s))

/-- `LD B,n8` (R203). -/
def execLdBN8 (n : Byte) (s : State) : Result := .next (tick 8 (writeR8 .b n s))

/-- `LD C,n8` (R203). -/
def execLdCN8 (n : Byte) (s : State) : Result := .next (tick 8 (writeR8 .c n s))

/-- `LD D,n8` (R203). -/
def execLdDN8 (n : Byte) (s : State) : Result := .next (tick 8 (writeR8 .d n s))

/-- `LD E,n8` (R203). -/
def execLdEN8 (n : Byte) (s : State) : Result := .next (tick 8 (writeR8 .e n s))

/-- `LD H,n8` (R203). -/
def execLdHN8 (n : Byte) (s : State) : Result := .next (tick 8 (writeR8 .h n s))

/-- `LD L,n8` (R203). -/
def execLdLN8 (n : Byte) (s : State) : Result := .next (tick 8 (writeR8 .l n s))

/-- `LD (HL),n8` (R206). -/
def execLdAtHlN8 (n : Byte) (s : State) : Result := .next (tick 12 (writeR8 .atHl n s))

/-- `LD A,n8` (R203). -/
def execLdAN8 (n : Byte) (s : State) : Result := .next (tick 8 (writeR8 .a n s))

/-- `LD A,(BC)` (R207). -/
def execLdAAtBc (s : State) : Result := .next (tick 8 (loadA (getBc s) s))

/-- `LD A,(DE)` (R208). -/
def execLdAAtDe (s : State) : Result := .next (tick 8 (loadA (getDe s) s))

/-- `LD (BC),A` (R209). -/
def execLdAtBcA (s : State) : Result := .next (tick 8 (storeA (getBc s) s))

/-- `LD (DE),A` (R210). -/
def execLdAtDeA (s : State) : Result := .next (tick 8 (storeA (getDe s) s))

/-- `LD A,(HL+)` (R211). -/
def execLdAAtHli (s : State) : Result := .next (tick 8 (loadAStep 1 s))

/-- `LD A,(HL-)` (R212). -/
def execLdAAtHld (s : State) : Result := .next (tick 8 (loadAStep (-1) s))

/-- `LD (HL+),A` (R213). -/
def execLdAtHliA (s : State) : Result := .next (tick 8 (storeAStep 1 s))

/-- `LD (HL-),A` (R214). -/
def execLdAtHldA (s : State) : Result := .next (tick 8 (storeAStep (-1) s))

/-- `LD A,(a16)` (R215). -/
def execLdAAtA16 (a : Word) (s : State) : Result := .next (tick 16 (loadA a s))

/-- `LD (a16),A` (R216). -/
def execLdAtA16A (a : Word) (s : State) : Result := .next (tick 16 (storeA a s))

/-- `LDH A,(a8)` (R217). -/
def execLdhAAtA8 (a : Byte) (s : State) : Result := .next (tick 12 (loadA (highPage a) s))

/-- `LDH (a8),A` (R218). -/
def execLdhAtA8A (a : Byte) (s : State) : Result := .next (tick 12 (storeA (highPage a) s))

/-- `LDH A,(C)` (R219). -/
def execLdhAAtC (s : State) : Result := .next (tick 8 (loadA (highPage s.c) s))

/-- `LDH (C),A` (R220). -/
def execLdhAtCA (s : State) : Result := .next (tick 8 (storeA (highPage s.c) s))

/-- `LD BC,n16` (R221). -/
def execLdBcN16 (n : Word) (s : State) : Result := .next (tick 12 (writeRr .bc n s))

/-- `LD DE,n16` (R221). -/
def execLdDeN16 (n : Word) (s : State) : Result := .next (tick 12 (writeRr .de n s))

/-- `LD HL,n16` (R221). -/
def execLdHlN16 (n : Word) (s : State) : Result := .next (tick 12 (writeRr .hl n s))

/-- `LD SP,n16` (R221). -/
def execLdSpN16 (n : Word) (s : State) : Result := .next (tick 12 (writeRr .sp n s))

/-- `LD (a16),SP` (R222). -/
def execLdAtA16Sp (a : Word) (s : State) : Result := .next (tick 20 (storeSp a s))

/-- `LD SP,HL` (R223). -/
def execLdSpHl (s : State) : Result := .next (tick 8 { s with sp := getHl s })

/-- `LD HL,SP+e8` (R224). -/
def execLdHlSpE8 (e : Byte) (s : State) : Result := .next (tick 12 (loadHlSp e s))

/-- `PUSH BC` (R225). -/
def execPushBc (s : State) : Result := .next (tick 16 (pushQq .bc s))

/-- `PUSH DE` (R225). -/
def execPushDe (s : State) : Result := .next (tick 16 (pushQq .de s))

/-- `PUSH HL` (R225). -/
def execPushHl (s : State) : Result := .next (tick 16 (pushQq .hl s))

/-- `PUSH AF` (R226). -/
def execPushAf (s : State) : Result := .next (tick 16 (pushQq .af s))

/-- `POP BC` (R227). -/
def execPopBc (s : State) : Result := .next (tick 12 (popQq .bc s))

/-- `POP DE` (R227). -/
def execPopDe (s : State) : Result := .next (tick 12 (popQq .de s))

/-- `POP HL` (R227). -/
def execPopHl (s : State) : Result := .next (tick 12 (popQq .hl s))

/-- `POP AF` (R228). -/
def execPopAf (s : State) : Result := .next (tick 12 (popQq .af s))

end Sys2Proof.Machine
end

