-- ==== Sys2Proof/WellFormed.lean ====
section
/-! DEFINITION. Which instructions stand by themselves. Every operand is a byte or a word of exactly the
width its immediate has (30_encoding.md R166), so there is one check: the prefix byte is no whole
instruction, "The prefix and its CB opcode form one instruction" (45_system.md R385). -/

namespace Sys2Proof

/-- The instruction is whole: it is not the prefix byte without its CB opcode (R161, R385). -/
def Instr.wellFormed (i : Instr) : Bool :=
  match i with
  | .prefixCb => false
  | _ => true

end Sys2Proof
end

