-- ==== Sys2Proof/Decode.lean ====
section
/-! DEFINITION. The decoder (30_encoding.md R160..R174), which reads the opcode's fields as R168 and R169 do,
and the encoder, which is the opcode grid of R170 and R171. The two are written from the two presentations
the spec gives, so their round trip says something. After them the assembly syntax of R176 and the
T-cycles of opcode_table.json. -/

namespace Sys2Proof

/-! ### The families of rows, by operand field -/

/-- `LD dst,r` (R202, R204, R205): x = 1, dst = y, r = z; the slot of LD (HL),(HL) is HALT (R168, R173). -/
def Instr.mkLd (dst : R8) (r : R8) : Instr :=
  match dst, r with
  | .b, .b => .ldBB
  | .b, .c => .ldBC
  | .b, .d => .ldBD
  | .b, .e => .ldBE
  | .b, .h => .ldBH
  | .b, .l => .ldBL
  | .b, .atHl => .ldBAtHl
  | .b, .a => .ldBA
  | .c, .b => .ldCB
  | .c, .c => .ldCC
  | .c, .d => .ldCD
  | .c, .e => .ldCE
  | .c, .h => .ldCH
  | .c, .l => .ldCL
  | .c, .atHl => .ldCAtHl
  | .c, .a => .ldCA
  | .d, .b => .ldDB
  | .d, .c => .ldDC
  | .d, .d => .ldDD
  | .d, .e => .ldDE
  | .d, .h => .ldDH
  | .d, .l => .ldDL
  | .d, .atHl => .ldDAtHl
  | .d, .a => .ldDA
  | .e, .b => .ldEB
  | .e, .c => .ldEC
  | .e, .d => .ldED
  | .e, .e => .ldEE
  | .e, .h => .ldEH
  | .e, .l => .ldEL
  | .e, .atHl => .ldEAtHl
  | .e, .a => .ldEA
  | .h, .b => .ldHB
  | .h, .c => .ldHC
  | .h, .d => .ldHD
  | .h, .e => .ldHE
  | .h, .h => .ldHH
  | .h, .l => .ldHL
  | .h, .atHl => .ldHAtHl
  | .h, .a => .ldHA
  | .l, .b => .ldLB
  | .l, .c => .ldLC
  | .l, .d => .ldLD
  | .l, .e => .ldLE
  | .l, .h => .ldLH
  | .l, .l => .ldLL
  | .l, .atHl => .ldLAtHl
  | .l, .a => .ldLA
  | .atHl, .b => .ldAtHlB
  | .atHl, .c => .ldAtHlC
  | .atHl, .d => .ldAtHlD
  | .atHl, .e => .ldAtHlE
  | .atHl, .h => .ldAtHlH
  | .atHl, .l => .ldAtHlL
  | .atHl, .atHl => .halt
  | .atHl, .a => .ldAtHlA
  | .a, .b => .ldAB
  | .a, .c => .ldAC
  | .a, .d => .ldAD
  | .a, .e => .ldAE
  | .a, .h => .ldAH
  | .a, .l => .ldAL
  | .a, .atHl => .ldAAtHl
  | .a, .a => .ldAA

/-- `op A,r` (R250): x = 2, op = y, r = z. -/
def Instr.mkAlu (op : AluOp) (r : R8) : Instr :=
  match op, r with
  | .add, .b => .addAB
  | .add, .c => .addAC
  | .add, .d => .addAD
  | .add, .e => .addAE
  | .add, .h => .addAH
  | .add, .l => .addAL
  | .add, .atHl => .addAAtHl
  | .add, .a => .addAA
  | .adc, .b => .adcAB
  | .adc, .c => .adcAC
  | .adc, .d => .adcAD
  | .adc, .e => .adcAE
  | .adc, .h => .adcAH
  | .adc, .l => .adcAL
  | .adc, .atHl => .adcAAtHl
  | .adc, .a => .adcAA
  | .sub, .b => .subAB
  | .sub, .c => .subAC
  | .sub, .d => .subAD
  | .sub, .e => .subAE
  | .sub, .h => .subAH
  | .sub, .l => .subAL
  | .sub, .atHl => .subAAtHl
  | .sub, .a => .subAA
  | .sbc, .b => .sbcAB
  | .sbc, .c => .sbcAC
  | .sbc, .d => .sbcAD
  | .sbc, .e => .sbcAE
  | .sbc, .h => .sbcAH
  | .sbc, .l => .sbcAL
  | .sbc, .atHl => .sbcAAtHl
  | .sbc, .a => .sbcAA
  | .and, .b => .andAB
  | .and, .c => .andAC
  | .and, .d => .andAD
  | .and, .e => .andAE
  | .and, .h => .andAH
  | .and, .l => .andAL
  | .and, .atHl => .andAAtHl
  | .and, .a => .andAA
  | .xor, .b => .xorAB
  | .xor, .c => .xorAC
  | .xor, .d => .xorAD
  | .xor, .e => .xorAE
  | .xor, .h => .xorAH
  | .xor, .l => .xorAL
  | .xor, .atHl => .xorAAtHl
  | .xor, .a => .xorAA
  | .or, .b => .orAB
  | .or, .c => .orAC
  | .or, .d => .orAD
  | .or, .e => .orAE
  | .or, .h => .orAH
  | .or, .l => .orAL
  | .or, .atHl => .orAAtHl
  | .or, .a => .orAA
  | .cp, .b => .cpAB
  | .cp, .c => .cpAC
  | .cp, .d => .cpAD
  | .cp, .e => .cpAE
  | .cp, .h => .cpAH
  | .cp, .l => .cpAL
  | .cp, .atHl => .cpAAtHl
  | .cp, .a => .cpAA

/-- `op A,n8` (R250): x = 3, z = 6, op = y. -/
def Instr.mkAluN (op : AluOp) (n : Byte) : Instr :=
  match op with
  | .add => .addAN8 n
  | .adc => .adcAN8 n
  | .sub => .subAN8 n
  | .sbc => .sbcAN8 n
  | .and => .andAN8 n
  | .xor => .xorAN8 n
  | .or => .orAN8 n
  | .cp => .cpAN8 n

/-- `INC r` (R260, R261): x = 0, z = 4. -/
def Instr.mkInc (r : R8) : Instr :=
  match r with
  | .b => .incB
  | .c => .incC
  | .d => .incD
  | .e => .incE
  | .h => .incH
  | .l => .incL
  | .atHl => .incAtHl
  | .a => .incA

/-- `DEC r` (R262, R263): x = 0, z = 5. -/
def Instr.mkDec (r : R8) : Instr :=
  match r with
  | .b => .decB
  | .c => .decC
  | .d => .decD
  | .e => .decE
  | .h => .decH
  | .l => .decL
  | .atHl => .decAtHl
  | .a => .decA

/-- `LD r,n8` (R203, R206): x = 0, z = 6. -/
def Instr.mkLdN (r : R8) (n : Byte) : Instr :=
  match r with
  | .b => .ldBN8 n
  | .c => .ldCN8 n
  | .d => .ldDN8 n
  | .e => .ldEN8 n
  | .h => .ldHN8 n
  | .l => .ldLN8 n
  | .atHl => .ldAtHlN8 n
  | .a => .ldAN8 n

/-- `LD rr,n16` (R221): x = 0, z = 1, q = 0. -/
def Instr.mkLdRr (rr : RR) (n : Word) : Instr :=
  match rr with
  | .bc => .ldBcN16 n
  | .de => .ldDeN16 n
  | .hl => .ldHlN16 n
  | .sp => .ldSpN16 n

/-- `ADD HL,rr` (R290): x = 0, z = 1, q = 1. -/
def Instr.mkAddHl (rr : RR) : Instr :=
  match rr with
  | .bc => .addHlBc
  | .de => .addHlDe
  | .hl => .addHlHl
  | .sp => .addHlSp

/-- `INC rr` (R291): x = 0, z = 3, q = 0. -/
def Instr.mkIncRr (rr : RR) : Instr :=
  match rr with
  | .bc => .incBc
  | .de => .incDe
  | .hl => .incHl
  | .sp => .incSp

/-- `DEC rr` (R292): x = 0, z = 3, q = 1. -/
def Instr.mkDecRr (rr : RR) : Instr :=
  match rr with
  | .bc => .decBc
  | .de => .decDe
  | .hl => .decHl
  | .sp => .decSp

/-- `PUSH qq` (R225, R226): x = 3, z = 5, q = 0. -/
def Instr.mkPush (qq : QQ) : Instr :=
  match qq with
  | .bc => .pushBc
  | .de => .pushDe
  | .hl => .pushHl
  | .af => .pushAf

/-- `POP qq` (R227, R228): x = 3, z = 1, q = 0. -/
def Instr.mkPop (qq : QQ) : Instr :=
  match qq with
  | .bc => .popBc
  | .de => .popDe
  | .hl => .popHl
  | .af => .popAf

/-- `JR cc,e8` (R355): x = 0, z = 0, y = 4..7. -/
def Instr.mkJr (cc : Cond) (e : Byte) : Instr :=
  match cc with
  | .nz => .jrNzE8 e
  | .z => .jrZE8 e
  | .nc => .jrNcE8 e
  | .c => .jrCE8 e

/-- `JP cc,a16` (R352): x = 3, z = 2, y = 0..3. -/
def Instr.mkJp (cc : Cond) (a : Word) : Instr :=
  match cc with
  | .nz => .jpNzA16 a
  | .z => .jpZA16 a
  | .nc => .jpNcA16 a
  | .c => .jpCA16 a

/-- `CALL cc,a16` (R357): x = 3, z = 4, y = 0..3. -/
def Instr.mkCall (cc : Cond) (a : Word) : Instr :=
  match cc with
  | .nz => .callNzA16 a
  | .z => .callZA16 a
  | .nc => .callNcA16 a
  | .c => .callCA16 a

/-- `RET cc` (R359): x = 3, z = 0, y = 0..3. -/
def Instr.mkRet (cc : Cond) : Instr :=
  match cc with
  | .nz => .retNz
  | .z => .retZ
  | .nc => .retNc
  | .c => .retC

/-- `RST t` (R361): x = 3, z = 7, t = y * 8. -/
def Instr.mkRst (y : Fin 8) : Instr :=
  match y with
  | 0 => .rst00
  | 1 => .rst08
  | 2 => .rst10
  | 3 => .rst18
  | 4 => .rst20
  | 5 => .rst28
  | 6 => .rst30
  | 7 => .rst38

/-- RLCA, RRCA, RLA, RRA, DAA, CPL, SCF, CCF (R168): x = 0, z = 7, by y. -/
def Instr.mkAccRot (y : Fin 8) : Instr :=
  match y with
  | 0 => .rlca
  | 1 => .rrca
  | 2 => .rla
  | 3 => .rra
  | 4 => .daa
  | 5 => .cpl
  | 6 => .scf
  | 7 => .ccf

/-- The CB rotates, shifts and SWAP (R169): x = 0, op = y, r = z. -/
def Instr.mkRot (k : RotOp) (r : R8) : Instr :=
  match k, r with
  | .rlc, .b => .rlcB
  | .rlc, .c => .rlcC
  | .rlc, .d => .rlcD
  | .rlc, .e => .rlcE
  | .rlc, .h => .rlcH
  | .rlc, .l => .rlcL
  | .rlc, .atHl => .rlcAtHl
  | .rlc, .a => .rlcA
  | .rrc, .b => .rrcB
  | .rrc, .c => .rrcC
  | .rrc, .d => .rrcD
  | .rrc, .e => .rrcE
  | .rrc, .h => .rrcH
  | .rrc, .l => .rrcL
  | .rrc, .atHl => .rrcAtHl
  | .rrc, .a => .rrcA
  | .rl, .b => .rlB
  | .rl, .c => .rlC
  | .rl, .d => .rlD
  | .rl, .e => .rlE
  | .rl, .h => .rlH
  | .rl, .l => .rlL
  | .rl, .atHl => .rlAtHl
  | .rl, .a => .rlA
  | .rr, .b => .rrB
  | .rr, .c => .rrC
  | .rr, .d => .rrD
  | .rr, .e => .rrE
  | .rr, .h => .rrH
  | .rr, .l => .rrL
  | .rr, .atHl => .rrAtHl
  | .rr, .a => .rrA
  | .sla, .b => .slaB
  | .sla, .c => .slaC
  | .sla, .d => .slaD
  | .sla, .e => .slaE
  | .sla, .h => .slaH
  | .sla, .l => .slaL
  | .sla, .atHl => .slaAtHl
  | .sla, .a => .slaA
  | .sra, .b => .sraB
  | .sra, .c => .sraC
  | .sra, .d => .sraD
  | .sra, .e => .sraE
  | .sra, .h => .sraH
  | .sra, .l => .sraL
  | .sra, .atHl => .sraAtHl
  | .sra, .a => .sraA
  | .swap, .b => .swapB
  | .swap, .c => .swapC
  | .swap, .d => .swapD
  | .swap, .e => .swapE
  | .swap, .h => .swapH
  | .swap, .l => .swapL
  | .swap, .atHl => .swapAtHl
  | .swap, .a => .swapA
  | .srl, .b => .srlB
  | .srl, .c => .srlC
  | .srl, .d => .srlD
  | .srl, .e => .srlE
  | .srl, .h => .srlH
  | .srl, .l => .srlL
  | .srl, .atHl => .srlAtHl
  | .srl, .a => .srlA

/-- `BIT n,r` (R169, R323): x = 1, n = y, r = z. -/
def Instr.mkBit (n : Fin 8) (r : R8) : Instr :=
  match n, r with
  | 0, .b => .bit0B
  | 0, .c => .bit0C
  | 0, .d => .bit0D
  | 0, .e => .bit0E
  | 0, .h => .bit0H
  | 0, .l => .bit0L
  | 0, .atHl => .bit0AtHl
  | 0, .a => .bit0A
  | 1, .b => .bit1B
  | 1, .c => .bit1C
  | 1, .d => .bit1D
  | 1, .e => .bit1E
  | 1, .h => .bit1H
  | 1, .l => .bit1L
  | 1, .atHl => .bit1AtHl
  | 1, .a => .bit1A
  | 2, .b => .bit2B
  | 2, .c => .bit2C
  | 2, .d => .bit2D
  | 2, .e => .bit2E
  | 2, .h => .bit2H
  | 2, .l => .bit2L
  | 2, .atHl => .bit2AtHl
  | 2, .a => .bit2A
  | 3, .b => .bit3B
  | 3, .c => .bit3C
  | 3, .d => .bit3D
  | 3, .e => .bit3E
  | 3, .h => .bit3H
  | 3, .l => .bit3L
  | 3, .atHl => .bit3AtHl
  | 3, .a => .bit3A
  | 4, .b => .bit4B
  | 4, .c => .bit4C
  | 4, .d => .bit4D
  | 4, .e => .bit4E
  | 4, .h => .bit4H
  | 4, .l => .bit4L
  | 4, .atHl => .bit4AtHl
  | 4, .a => .bit4A
  | 5, .b => .bit5B
  | 5, .c => .bit5C
  | 5, .d => .bit5D
  | 5, .e => .bit5E
  | 5, .h => .bit5H
  | 5, .l => .bit5L
  | 5, .atHl => .bit5AtHl
  | 5, .a => .bit5A
  | 6, .b => .bit6B
  | 6, .c => .bit6C
  | 6, .d => .bit6D
  | 6, .e => .bit6E
  | 6, .h => .bit6H
  | 6, .l => .bit6L
  | 6, .atHl => .bit6AtHl
  | 6, .a => .bit6A
  | 7, .b => .bit7B
  | 7, .c => .bit7C
  | 7, .d => .bit7D
  | 7, .e => .bit7E
  | 7, .h => .bit7H
  | 7, .l => .bit7L
  | 7, .atHl => .bit7AtHl
  | 7, .a => .bit7A

/-- `RES n,r` (R169, R324): x = 2, n = y, r = z. -/
def Instr.mkRes (n : Fin 8) (r : R8) : Instr :=
  match n, r with
  | 0, .b => .res0B
  | 0, .c => .res0C
  | 0, .d => .res0D
  | 0, .e => .res0E
  | 0, .h => .res0H
  | 0, .l => .res0L
  | 0, .atHl => .res0AtHl
  | 0, .a => .res0A
  | 1, .b => .res1B
  | 1, .c => .res1C
  | 1, .d => .res1D
  | 1, .e => .res1E
  | 1, .h => .res1H
  | 1, .l => .res1L
  | 1, .atHl => .res1AtHl
  | 1, .a => .res1A
  | 2, .b => .res2B
  | 2, .c => .res2C
  | 2, .d => .res2D
  | 2, .e => .res2E
  | 2, .h => .res2H
  | 2, .l => .res2L
  | 2, .atHl => .res2AtHl
  | 2, .a => .res2A
  | 3, .b => .res3B
  | 3, .c => .res3C
  | 3, .d => .res3D
  | 3, .e => .res3E
  | 3, .h => .res3H
  | 3, .l => .res3L
  | 3, .atHl => .res3AtHl
  | 3, .a => .res3A
  | 4, .b => .res4B
  | 4, .c => .res4C
  | 4, .d => .res4D
  | 4, .e => .res4E
  | 4, .h => .res4H
  | 4, .l => .res4L
  | 4, .atHl => .res4AtHl
  | 4, .a => .res4A
  | 5, .b => .res5B
  | 5, .c => .res5C
  | 5, .d => .res5D
  | 5, .e => .res5E
  | 5, .h => .res5H
  | 5, .l => .res5L
  | 5, .atHl => .res5AtHl
  | 5, .a => .res5A
  | 6, .b => .res6B
  | 6, .c => .res6C
  | 6, .d => .res6D
  | 6, .e => .res6E
  | 6, .h => .res6H
  | 6, .l => .res6L
  | 6, .atHl => .res6AtHl
  | 6, .a => .res6A
  | 7, .b => .res7B
  | 7, .c => .res7C
  | 7, .d => .res7D
  | 7, .e => .res7E
  | 7, .h => .res7H
  | 7, .l => .res7L
  | 7, .atHl => .res7AtHl
  | 7, .a => .res7A

/-- `SET n,r` (R169, R325): x = 3, n = y, r = z. -/
def Instr.mkSet (n : Fin 8) (r : R8) : Instr :=
  match n, r with
  | 0, .b => .set0B
  | 0, .c => .set0C
  | 0, .d => .set0D
  | 0, .e => .set0E
  | 0, .h => .set0H
  | 0, .l => .set0L
  | 0, .atHl => .set0AtHl
  | 0, .a => .set0A
  | 1, .b => .set1B
  | 1, .c => .set1C
  | 1, .d => .set1D
  | 1, .e => .set1E
  | 1, .h => .set1H
  | 1, .l => .set1L
  | 1, .atHl => .set1AtHl
  | 1, .a => .set1A
  | 2, .b => .set2B
  | 2, .c => .set2C
  | 2, .d => .set2D
  | 2, .e => .set2E
  | 2, .h => .set2H
  | 2, .l => .set2L
  | 2, .atHl => .set2AtHl
  | 2, .a => .set2A
  | 3, .b => .set3B
  | 3, .c => .set3C
  | 3, .d => .set3D
  | 3, .e => .set3E
  | 3, .h => .set3H
  | 3, .l => .set3L
  | 3, .atHl => .set3AtHl
  | 3, .a => .set3A
  | 4, .b => .set4B
  | 4, .c => .set4C
  | 4, .d => .set4D
  | 4, .e => .set4E
  | 4, .h => .set4H
  | 4, .l => .set4L
  | 4, .atHl => .set4AtHl
  | 4, .a => .set4A
  | 5, .b => .set5B
  | 5, .c => .set5C
  | 5, .d => .set5D
  | 5, .e => .set5E
  | 5, .h => .set5H
  | 5, .l => .set5L
  | 5, .atHl => .set5AtHl
  | 5, .a => .set5A
  | 6, .b => .set6B
  | 6, .c => .set6C
  | 6, .d => .set6D
  | 6, .e => .set6E
  | 6, .h => .set6H
  | 6, .l => .set6L
  | 6, .atHl => .set6AtHl
  | 6, .a => .set6A
  | 7, .b => .set7B
  | 7, .c => .set7C
  | 7, .d => .set7D
  | 7, .e => .set7E
  | 7, .h => .set7H
  | 7, .l => .set7L
  | 7, .atHl => .set7AtHl
  | 7, .a => .set7A

/-! ### The fields -/

/-- The operand a 3-bit field names (R163). -/
def r8Of (n : Nat) : R8 :=
  match n with
  | 0 => .b
  | 1 => .c
  | 2 => .d
  | 3 => .e
  | 4 => .h
  | 5 => .l
  | 6 => .atHl
  | _ => .a

/-- The pair a 2-bit field `rr` names (R164). -/
def rrOf (n : Nat) : RR :=
  match n with
  | 0 => .bc
  | 1 => .de
  | 2 => .hl
  | _ => .sp

/-- The pair a 2-bit field `qq` names (R164). -/
def qqOf (n : Nat) : QQ :=
  match n with
  | 0 => .bc
  | 1 => .de
  | 2 => .hl
  | _ => .af

/-- The condition a 2-bit field names (R165). -/
def condOf (n : Nat) : Cond :=
  match n with
  | 0 => .nz
  | 1 => .z
  | 2 => .nc
  | _ => .c

/-- The accumulator operation a 3-bit field names (R168). -/
def aluOf (n : Nat) : AluOp :=
  match n with
  | 0 => .add
  | 1 => .adc
  | 2 => .sub
  | 3 => .sbc
  | 4 => .and
  | 5 => .xor
  | 6 => .or
  | _ => .cp

/-- The rotate or shift a 3-bit field names (R169). -/
def rotOf (n : Nat) : RotOp :=
  match n with
  | 0 => .rlc
  | 1 => .rrc
  | 2 => .rl
  | 3 => .rr
  | 4 => .sla
  | 5 => .sra
  | 6 => .swap
  | _ => .srl

/-- A 3-bit field as a number below 8. -/
def fieldOf (n : Nat) : Fin 8 := ⟨n % 8, Nat.mod_lt n (by decide)⟩

/-- `x = op[7:6]` (R162). -/
def fieldX (op : Byte) : Nat := op.toNat / 64
/-- `y = op[5:3]` (R162). -/
def fieldY (op : Byte) : Nat := op.toNat / 8 % 8
/-- `z = op[2:0]` (R162). -/
def fieldZ (op : Byte) : Nat := op.toNat % 8
/-- `p = op[5:4]` (R162). -/
def fieldP (op : Byte) : Nat := op.toNat / 16 % 4
/-- `q = op[3]` (R162). -/
def fieldQ (op : Byte) : Nat := op.toNat / 8 % 2

/-! ### The decoder -/

/-- The x = 0 block of R168. `b1` is the byte after the opcode and `w` the two bytes after it. -/
def decodeX0 (op b1 : Byte) (w : Word) : Instr :=
  match fieldZ op with
  | 0 =>
    match fieldY op with
    | 0 => .nop
    | 1 => .ldAtA16Sp w
    | 2 => .stopN8 b1
    | 3 => .jrE8 b1
    | y => .mkJr (condOf (y - 4)) b1
  | 1 => if fieldQ op = 0 then .mkLdRr (rrOf (fieldP op)) w else .mkAddHl (rrOf (fieldP op))
  | 2 =>
    match fieldY op with
    | 0 => .ldAtBcA
    | 1 => .ldAAtBc
    | 2 => .ldAtDeA
    | 3 => .ldAAtDe
    | 4 => .ldAtHliA
    | 5 => .ldAAtHli
    | 6 => .ldAtHldA
    | _ => .ldAAtHld
  | 3 => if fieldQ op = 0 then .mkIncRr (rrOf (fieldP op)) else .mkDecRr (rrOf (fieldP op))
  | 4 => .mkInc (r8Of (fieldY op))
  | 5 => .mkDec (r8Of (fieldY op))
  | 6 => .mkLdN (r8Of (fieldY op)) b1
  | _ => .mkAccRot (fieldOf (fieldY op))

/-- The x = 3 block of R168. -/
def decodeX3 (op b1 : Byte) (w : Word) : Instr :=
  match fieldZ op with
  | 0 =>
    match fieldY op with
    | 4 => .ldhAtA8A b1
    | 5 => .addSpE8 b1
    | 6 => .ldhAAtA8 b1
    | 7 => .ldHlSpE8 b1
    | y => .mkRet (condOf y)
  | 1 =>
    if fieldQ op = 0 then .mkPop (qqOf (fieldP op))
    else
      match fieldP op with
      | 0 => .ret
      | 1 => .reti
      | 2 => .jpHl
      | _ => .ldSpHl
  | 2 =>
    match fieldY op with
    | 4 => .ldhAtCA
    | 5 => .ldAtA16A w
    | 6 => .ldhAAtC
    | 7 => .ldAAtA16 w
    | y => .mkJp (condOf y) w
  | 3 =>
    match fieldY op with
    | 0 => .jpA16 w
    | 1 => .prefixCb
    | 2 => .illegalD3
    | 3 => .illegalDB
    | 4 => .illegalE3
    | 5 => .illegalEB
    | 6 => .di
    | _ => .ei
  | 4 =>
    match fieldY op with
    | 4 => .illegalE4
    | 5 => .illegalEC
    | 6 => .illegalF4
    | 7 => .illegalFC
    | y => .mkCall (condOf y) w
  | 5 =>
    if fieldQ op = 0 then .mkPush (qqOf (fieldP op))
    else
      match fieldP op with
      | 0 => .callA16 w
      | 1 => .illegalDD
      | 2 => .illegalED
      | _ => .illegalFD
  | 6 => .mkAluN (aluOf (fieldY op)) b1
  | _ => .mkRst (fieldOf (fieldY op))

/-- The primary opcodes (R168); 0xCB gives the prefix byte itself. -/
def decodePrimary (op b1 : Byte) (w : Word) : Instr :=
  match fieldX op with
  | 0 => decodeX0 op b1 w
  | 1 => .mkLd (r8Of (fieldY op)) (r8Of (fieldZ op))
  | 2 => .mkAlu (aluOf (fieldY op)) (r8Of (fieldZ op))
  | _ => decodeX3 op b1 w

/-- The CB opcodes (R169). -/
def decodeCb (op : Byte) : Instr :=
  match fieldX op with
  | 0 => .mkRot (rotOf (fieldY op)) (r8Of (fieldZ op))
  | 1 => .mkBit (fieldOf (fieldY op)) (r8Of (fieldZ op))
  | 2 => .mkRes (fieldOf (fieldY op)) (r8Of (fieldZ op))
  | _ => .mkSet (fieldOf (fieldY op)) (r8Of (fieldZ op))

/-- The instruction whose bytes are `b0 b1 b2`, of which it takes the first `opLength b0`. A prefix and its
CB opcode are one instruction (R161); 16-bit immediates are little-endian (R166). -/
def decodeBytes (b0 b1 b2 : Byte) : Instr :=
  if b0 = 0xCB#8 then decodeCb b1 else decodePrimary b0 b1 (b2 ++ b1)

/-- The opcodes of two bytes, 0xCB among them, as R174 lists them. -/
def twoByteOpcodes : List Nat :=
  [0xCB, 0x06, 0x0E, 0x16, 0x1E, 0x26, 0x2E, 0x36, 0x3E, 0x10, 0x18, 0x20, 0x28, 0x30, 0x38] ++
    [0xC6, 0xCE, 0xD6, 0xDE, 0xE6, 0xEE, 0xF6, 0xFE, 0xE0, 0xF0, 0xE8, 0xF8]

/-- The opcodes of three bytes, as R174 lists them. -/
def threeByteOpcodes : List Nat :=
  [0x01, 0x11, 0x21, 0x31, 0x08, 0xC2, 0xC3, 0xC4, 0xCA, 0xCC, 0xCD, 0xD2, 0xD4, 0xDA, 0xDC] ++
    [0xEA, 0xFA]

/-- The length of an instruction, from its first byte (R174). -/
def opLength (b0 : Byte) : Nat :=
  if b0.toNat ∈ threeByteOpcodes then 3 else if b0.toNat ∈ twoByteOpcodes then 2 else 1

/-- Why a byte string is no instruction. -/
inductive DecodeError where
  /-- There is no byte. -/
  | empty
  /-- The opcode's operand bytes are not all there. -/
  | truncated (opcode : Byte)
  deriving DecidableEq, Repr

/-- The decoder on any bytes: the first instruction and the bytes after it. The byte 0xCB at the very end is
the prefix byte by itself (log entry 10). -/
def decode (bytes : List Byte) : Except DecodeError (Instr × List Byte) :=
  match bytes with
  | [] => .error .empty
  | b0 :: rest =>
    if b0 = 0xCB#8 ∧ rest = [] then .ok (.prefixCb, [])
    else if rest.length + 1 < opLength b0 then .error (.truncated b0)
    else .ok (decodeBytes b0 (rest.getD 0 0) (rest.getD 1 0), rest.drop (opLength b0 - 1))

/-! ### The encoder: the grid of R170 and R171 -/

/-- The bytes of an instruction. -/
def encode (i : Instr) : List Byte :=
  match i with
  | .nop => [0x00]
  | .ldBcN16 n => [0x01, n.extractLsb' 0 8, n.extractLsb' 8 8]
  | .ldAtBcA => [0x02]
  | .incBc => [0x03]
  | .incB => [0x04]
  | .decB => [0x05]
  | .ldBN8 n => [0x06, n]
  | .rlca => [0x07]
  | .ldAtA16Sp a => [0x08, a.extractLsb' 0 8, a.extractLsb' 8 8]
  | .addHlBc => [0x09]
  | .ldAAtBc => [0x0A]
  | .decBc => [0x0B]
  | .incC => [0x0C]
  | .decC => [0x0D]
  | .ldCN8 n => [0x0E, n]
  | .rrca => [0x0F]
  | .stopN8 n => [0x10, n]
  | .ldDeN16 n => [0x11, n.extractLsb' 0 8, n.extractLsb' 8 8]
  | .ldAtDeA => [0x12]
  | .incDe => [0x13]
  | .incD => [0x14]
  | .decD => [0x15]
  | .ldDN8 n => [0x16, n]
  | .rla => [0x17]
  | .jrE8 e => [0x18, e]
  | .addHlDe => [0x19]
  | .ldAAtDe => [0x1A]
  | .decDe => [0x1B]
  | .incE => [0x1C]
  | .decE => [0x1D]
  | .ldEN8 n => [0x1E, n]
  | .rra => [0x1F]
  | .jrNzE8 e => [0x20, e]
  | .ldHlN16 n => [0x21, n.extractLsb' 0 8, n.extractLsb' 8 8]
  | .ldAtHliA => [0x22]
  | .incHl => [0x23]
  | .incH => [0x24]
  | .decH => [0x25]
  | .ldHN8 n => [0x26, n]
  | .daa => [0x27]
  | .jrZE8 e => [0x28, e]
  | .addHlHl => [0x29]
  | .ldAAtHli => [0x2A]
  | .decHl => [0x2B]
  | .incL => [0x2C]
  | .decL => [0x2D]
  | .ldLN8 n => [0x2E, n]
  | .cpl => [0x2F]
  | .jrNcE8 e => [0x30, e]
  | .ldSpN16 n => [0x31, n.extractLsb' 0 8, n.extractLsb' 8 8]
  | .ldAtHldA => [0x32]
  | .incSp => [0x33]
  | .incAtHl => [0x34]
  | .decAtHl => [0x35]
  | .ldAtHlN8 n => [0x36, n]
  | .scf => [0x37]
  | .jrCE8 e => [0x38, e]
  | .addHlSp => [0x39]
  | .ldAAtHld => [0x3A]
  | .decSp => [0x3B]
  | .incA => [0x3C]
  | .decA => [0x3D]
  | .ldAN8 n => [0x3E, n]
  | .ccf => [0x3F]
  | .ldBB => [0x40]
  | .ldBC => [0x41]
  | .ldBD => [0x42]
  | .ldBE => [0x43]
  | .ldBH => [0x44]
  | .ldBL => [0x45]
  | .ldBAtHl => [0x46]
  | .ldBA => [0x47]
  | .ldCB => [0x48]
  | .ldCC => [0x49]
  | .ldCD => [0x4A]
  | .ldCE => [0x4B]
  | .ldCH => [0x4C]
  | .ldCL => [0x4D]
  | .ldCAtHl => [0x4E]
  | .ldCA => [0x4F]
  | .ldDB => [0x50]
  | .ldDC => [0x51]
  | .ldDD => [0x52]
  | .ldDE => [0x53]
  | .ldDH => [0x54]
  | .ldDL => [0x55]
  | .ldDAtHl => [0x56]
  | .ldDA => [0x57]
  | .ldEB => [0x58]
  | .ldEC => [0x59]
  | .ldED => [0x5A]
  | .ldEE => [0x5B]
  | .ldEH => [0x5C]
  | .ldEL => [0x5D]
  | .ldEAtHl => [0x5E]
  | .ldEA => [0x5F]
  | .ldHB => [0x60]
  | .ldHC => [0x61]
  | .ldHD => [0x62]
  | .ldHE => [0x63]
  | .ldHH => [0x64]
  | .ldHL => [0x65]
  | .ldHAtHl => [0x66]
  | .ldHA => [0x67]
  | .ldLB => [0x68]
  | .ldLC => [0x69]
  | .ldLD => [0x6A]
  | .ldLE => [0x6B]
  | .ldLH => [0x6C]
  | .ldLL => [0x6D]
  | .ldLAtHl => [0x6E]
  | .ldLA => [0x6F]
  | .ldAtHlB => [0x70]
  | .ldAtHlC => [0x71]
  | .ldAtHlD => [0x72]
  | .ldAtHlE => [0x73]
  | .ldAtHlH => [0x74]
  | .ldAtHlL => [0x75]
  | .halt => [0x76]
  | .ldAtHlA => [0x77]
  | .ldAB => [0x78]
  | .ldAC => [0x79]
  | .ldAD => [0x7A]
  | .ldAE => [0x7B]
  | .ldAH => [0x7C]
  | .ldAL => [0x7D]
  | .ldAAtHl => [0x7E]
  | .ldAA => [0x7F]
  | .addAB => [0x80]
  | .addAC => [0x81]
  | .addAD => [0x82]
  | .addAE => [0x83]
  | .addAH => [0x84]
  | .addAL => [0x85]
  | .addAAtHl => [0x86]
  | .addAA => [0x87]
  | .adcAB => [0x88]
  | .adcAC => [0x89]
  | .adcAD => [0x8A]
  | .adcAE => [0x8B]
  | .adcAH => [0x8C]
  | .adcAL => [0x8D]
  | .adcAAtHl => [0x8E]
  | .adcAA => [0x8F]
  | .subAB => [0x90]
  | .subAC => [0x91]
  | .subAD => [0x92]
  | .subAE => [0x93]
  | .subAH => [0x94]
  | .subAL => [0x95]
  | .subAAtHl => [0x96]
  | .subAA => [0x97]
  | .sbcAB => [0x98]
  | .sbcAC => [0x99]
  | .sbcAD => [0x9A]
  | .sbcAE => [0x9B]
  | .sbcAH => [0x9C]
  | .sbcAL => [0x9D]
  | .sbcAAtHl => [0x9E]
  | .sbcAA => [0x9F]
  | .andAB => [0xA0]
  | .andAC => [0xA1]
  | .andAD => [0xA2]
  | .andAE => [0xA3]
  | .andAH => [0xA4]
  | .andAL => [0xA5]
  | .andAAtHl => [0xA6]
  | .andAA => [0xA7]
  | .xorAB => [0xA8]
  | .xorAC => [0xA9]
  | .xorAD => [0xAA]
  | .xorAE => [0xAB]
  | .xorAH => [0xAC]
  | .xorAL => [0xAD]
  | .xorAAtHl => [0xAE]
  | .xorAA => [0xAF]
  | .orAB => [0xB0]
  | .orAC => [0xB1]
  | .orAD => [0xB2]
  | .orAE => [0xB3]
  | .orAH => [0xB4]
  | .orAL => [0xB5]
  | .orAAtHl => [0xB6]
  | .orAA => [0xB7]
  | .cpAB => [0xB8]
  | .cpAC => [0xB9]
  | .cpAD => [0xBA]
  | .cpAE => [0xBB]
  | .cpAH => [0xBC]
  | .cpAL => [0xBD]
  | .cpAAtHl => [0xBE]
  | .cpAA => [0xBF]
  | .retNz => [0xC0]
  | .popBc => [0xC1]
  | .jpNzA16 a => [0xC2, a.extractLsb' 0 8, a.extractLsb' 8 8]
  | .jpA16 a => [0xC3, a.extractLsb' 0 8, a.extractLsb' 8 8]
  | .callNzA16 a => [0xC4, a.extractLsb' 0 8, a.extractLsb' 8 8]
  | .pushBc => [0xC5]
  | .addAN8 n => [0xC6, n]
  | .rst00 => [0xC7]
  | .retZ => [0xC8]
  | .ret => [0xC9]
  | .jpZA16 a => [0xCA, a.extractLsb' 0 8, a.extractLsb' 8 8]
  | .prefixCb => [0xCB]
  | .callZA16 a => [0xCC, a.extractLsb' 0 8, a.extractLsb' 8 8]
  | .callA16 a => [0xCD, a.extractLsb' 0 8, a.extractLsb' 8 8]
  | .adcAN8 n => [0xCE, n]
  | .rst08 => [0xCF]
  | .retNc => [0xD0]
  | .popDe => [0xD1]
  | .jpNcA16 a => [0xD2, a.extractLsb' 0 8, a.extractLsb' 8 8]
  | .illegalD3 => [0xD3]
  | .callNcA16 a => [0xD4, a.extractLsb' 0 8, a.extractLsb' 8 8]
  | .pushDe => [0xD5]
  | .subAN8 n => [0xD6, n]
  | .rst10 => [0xD7]
  | .retC => [0xD8]
  | .reti => [0xD9]
  | .jpCA16 a => [0xDA, a.extractLsb' 0 8, a.extractLsb' 8 8]
  | .illegalDB => [0xDB]
  | .callCA16 a => [0xDC, a.extractLsb' 0 8, a.extractLsb' 8 8]
  | .illegalDD => [0xDD]
  | .sbcAN8 n => [0xDE, n]
  | .rst18 => [0xDF]
  | .ldhAtA8A a => [0xE0, a]
  | .popHl => [0xE1]
  | .ldhAtCA => [0xE2]
  | .illegalE3 => [0xE3]
  | .illegalE4 => [0xE4]
  | .pushHl => [0xE5]
  | .andAN8 n => [0xE6, n]
  | .rst20 => [0xE7]
  | .addSpE8 e => [0xE8, e]
  | .jpHl => [0xE9]
  | .ldAtA16A a => [0xEA, a.extractLsb' 0 8, a.extractLsb' 8 8]
  | .illegalEB => [0xEB]
  | .illegalEC => [0xEC]
  | .illegalED => [0xED]
  | .xorAN8 n => [0xEE, n]
  | .rst28 => [0xEF]
  | .ldhAAtA8 a => [0xF0, a]
  | .popAf => [0xF1]
  | .ldhAAtC => [0xF2]
  | .di => [0xF3]
  | .illegalF4 => [0xF4]
  | .pushAf => [0xF5]
  | .orAN8 n => [0xF6, n]
  | .rst30 => [0xF7]
  | .ldHlSpE8 e => [0xF8, e]
  | .ldSpHl => [0xF9]
  | .ldAAtA16 a => [0xFA, a.extractLsb' 0 8, a.extractLsb' 8 8]
  | .ei => [0xFB]
  | .illegalFC => [0xFC]
  | .illegalFD => [0xFD]
  | .cpAN8 n => [0xFE, n]
  | .rst38 => [0xFF]
  | .rlcB => [0xCB, 0x00]
  | .rlcC => [0xCB, 0x01]
  | .rlcD => [0xCB, 0x02]
  | .rlcE => [0xCB, 0x03]
  | .rlcH => [0xCB, 0x04]
  | .rlcL => [0xCB, 0x05]
  | .rlcAtHl => [0xCB, 0x06]
  | .rlcA => [0xCB, 0x07]
  | .rrcB => [0xCB, 0x08]
  | .rrcC => [0xCB, 0x09]
  | .rrcD => [0xCB, 0x0A]
  | .rrcE => [0xCB, 0x0B]
  | .rrcH => [0xCB, 0x0C]
  | .rrcL => [0xCB, 0x0D]
  | .rrcAtHl => [0xCB, 0x0E]
  | .rrcA => [0xCB, 0x0F]
  | .rlB => [0xCB, 0x10]
  | .rlC => [0xCB, 0x11]
  | .rlD => [0xCB, 0x12]
  | .rlE => [0xCB, 0x13]
  | .rlH => [0xCB, 0x14]
  | .rlL => [0xCB, 0x15]
  | .rlAtHl => [0xCB, 0x16]
  | .rlA => [0xCB, 0x17]
  | .rrB => [0xCB, 0x18]
  | .rrC => [0xCB, 0x19]
  | .rrD => [0xCB, 0x1A]
  | .rrE => [0xCB, 0x1B]
  | .rrH => [0xCB, 0x1C]
  | .rrL => [0xCB, 0x1D]
  | .rrAtHl => [0xCB, 0x1E]
  | .rrA => [0xCB, 0x1F]
  | .slaB => [0xCB, 0x20]
  | .slaC => [0xCB, 0x21]
  | .slaD => [0xCB, 0x22]
  | .slaE => [0xCB, 0x23]
  | .slaH => [0xCB, 0x24]
  | .slaL => [0xCB, 0x25]
  | .slaAtHl => [0xCB, 0x26]
  | .slaA => [0xCB, 0x27]
  | .sraB => [0xCB, 0x28]
  | .sraC => [0xCB, 0x29]
  | .sraD => [0xCB, 0x2A]
  | .sraE => [0xCB, 0x2B]
  | .sraH => [0xCB, 0x2C]
  | .sraL => [0xCB, 0x2D]
  | .sraAtHl => [0xCB, 0x2E]
  | .sraA => [0xCB, 0x2F]
  | .swapB => [0xCB, 0x30]
  | .swapC => [0xCB, 0x31]
  | .swapD => [0xCB, 0x32]
  | .swapE => [0xCB, 0x33]
  | .swapH => [0xCB, 0x34]
  | .swapL => [0xCB, 0x35]
  | .swapAtHl => [0xCB, 0x36]
  | .swapA => [0xCB, 0x37]
  | .srlB => [0xCB, 0x38]
  | .srlC => [0xCB, 0x39]
  | .srlD => [0xCB, 0x3A]
  | .srlE => [0xCB, 0x3B]
  | .srlH => [0xCB, 0x3C]
  | .srlL => [0xCB, 0x3D]
  | .srlAtHl => [0xCB, 0x3E]
  | .srlA => [0xCB, 0x3F]
  | .bit0B => [0xCB, 0x40]
  | .bit0C => [0xCB, 0x41]
  | .bit0D => [0xCB, 0x42]
  | .bit0E => [0xCB, 0x43]
  | .bit0H => [0xCB, 0x44]
  | .bit0L => [0xCB, 0x45]
  | .bit0AtHl => [0xCB, 0x46]
  | .bit0A => [0xCB, 0x47]
  | .bit1B => [0xCB, 0x48]
  | .bit1C => [0xCB, 0x49]
  | .bit1D => [0xCB, 0x4A]
  | .bit1E => [0xCB, 0x4B]
  | .bit1H => [0xCB, 0x4C]
  | .bit1L => [0xCB, 0x4D]
  | .bit1AtHl => [0xCB, 0x4E]
  | .bit1A => [0xCB, 0x4F]
  | .bit2B => [0xCB, 0x50]
  | .bit2C => [0xCB, 0x51]
  | .bit2D => [0xCB, 0x52]
  | .bit2E => [0xCB, 0x53]
  | .bit2H => [0xCB, 0x54]
  | .bit2L => [0xCB, 0x55]
  | .bit2AtHl => [0xCB, 0x56]
  | .bit2A => [0xCB, 0x57]
  | .bit3B => [0xCB, 0x58]
  | .bit3C => [0xCB, 0x59]
  | .bit3D => [0xCB, 0x5A]
  | .bit3E => [0xCB, 0x5B]
  | .bit3H => [0xCB, 0x5C]
  | .bit3L => [0xCB, 0x5D]
  | .bit3AtHl => [0xCB, 0x5E]
  | .bit3A => [0xCB, 0x5F]
  | .bit4B => [0xCB, 0x60]
  | .bit4C => [0xCB, 0x61]
  | .bit4D => [0xCB, 0x62]
  | .bit4E => [0xCB, 0x63]
  | .bit4H => [0xCB, 0x64]
  | .bit4L => [0xCB, 0x65]
  | .bit4AtHl => [0xCB, 0x66]
  | .bit4A => [0xCB, 0x67]
  | .bit5B => [0xCB, 0x68]
  | .bit5C => [0xCB, 0x69]
  | .bit5D => [0xCB, 0x6A]
  | .bit5E => [0xCB, 0x6B]
  | .bit5H => [0xCB, 0x6C]
  | .bit5L => [0xCB, 0x6D]
  | .bit5AtHl => [0xCB, 0x6E]
  | .bit5A => [0xCB, 0x6F]
  | .bit6B => [0xCB, 0x70]
  | .bit6C => [0xCB, 0x71]
  | .bit6D => [0xCB, 0x72]
  | .bit6E => [0xCB, 0x73]
  | .bit6H => [0xCB, 0x74]
  | .bit6L => [0xCB, 0x75]
  | .bit6AtHl => [0xCB, 0x76]
  | .bit6A => [0xCB, 0x77]
  | .bit7B => [0xCB, 0x78]
  | .bit7C => [0xCB, 0x79]
  | .bit7D => [0xCB, 0x7A]
  | .bit7E => [0xCB, 0x7B]
  | .bit7H => [0xCB, 0x7C]
  | .bit7L => [0xCB, 0x7D]
  | .bit7AtHl => [0xCB, 0x7E]
  | .bit7A => [0xCB, 0x7F]
  | .res0B => [0xCB, 0x80]
  | .res0C => [0xCB, 0x81]
  | .res0D => [0xCB, 0x82]
  | .res0E => [0xCB, 0x83]
  | .res0H => [0xCB, 0x84]
  | .res0L => [0xCB, 0x85]
  | .res0AtHl => [0xCB, 0x86]
  | .res0A => [0xCB, 0x87]
  | .res1B => [0xCB, 0x88]
  | .res1C => [0xCB, 0x89]
  | .res1D => [0xCB, 0x8A]
  | .res1E => [0xCB, 0x8B]
  | .res1H => [0xCB, 0x8C]
  | .res1L => [0xCB, 0x8D]
  | .res1AtHl => [0xCB, 0x8E]
  | .res1A => [0xCB, 0x8F]
  | .res2B => [0xCB, 0x90]
  | .res2C => [0xCB, 0x91]
  | .res2D => [0xCB, 0x92]
  | .res2E => [0xCB, 0x93]
  | .res2H => [0xCB, 0x94]
  | .res2L => [0xCB, 0x95]
  | .res2AtHl => [0xCB, 0x96]
  | .res2A => [0xCB, 0x97]
  | .res3B => [0xCB, 0x98]
  | .res3C => [0xCB, 0x99]
  | .res3D => [0xCB, 0x9A]
  | .res3E => [0xCB, 0x9B]
  | .res3H => [0xCB, 0x9C]
  | .res3L => [0xCB, 0x9D]
  | .res3AtHl => [0xCB, 0x9E]
  | .res3A => [0xCB, 0x9F]
  | .res4B => [0xCB, 0xA0]
  | .res4C => [0xCB, 0xA1]
  | .res4D => [0xCB, 0xA2]
  | .res4E => [0xCB, 0xA3]
  | .res4H => [0xCB, 0xA4]
  | .res4L => [0xCB, 0xA5]
  | .res4AtHl => [0xCB, 0xA6]
  | .res4A => [0xCB, 0xA7]
  | .res5B => [0xCB, 0xA8]
  | .res5C => [0xCB, 0xA9]
  | .res5D => [0xCB, 0xAA]
  | .res5E => [0xCB, 0xAB]
  | .res5H => [0xCB, 0xAC]
  | .res5L => [0xCB, 0xAD]
  | .res5AtHl => [0xCB, 0xAE]
  | .res5A => [0xCB, 0xAF]
  | .res6B => [0xCB, 0xB0]
  | .res6C => [0xCB, 0xB1]
  | .res6D => [0xCB, 0xB2]
  | .res6E => [0xCB, 0xB3]
  | .res6H => [0xCB, 0xB4]
  | .res6L => [0xCB, 0xB5]
  | .res6AtHl => [0xCB, 0xB6]
  | .res6A => [0xCB, 0xB7]
  | .res7B => [0xCB, 0xB8]
  | .res7C => [0xCB, 0xB9]
  | .res7D => [0xCB, 0xBA]
  | .res7E => [0xCB, 0xBB]
  | .res7H => [0xCB, 0xBC]
  | .res7L => [0xCB, 0xBD]
  | .res7AtHl => [0xCB, 0xBE]
  | .res7A => [0xCB, 0xBF]
  | .set0B => [0xCB, 0xC0]
  | .set0C => [0xCB, 0xC1]
  | .set0D => [0xCB, 0xC2]
  | .set0E => [0xCB, 0xC3]
  | .set0H => [0xCB, 0xC4]
  | .set0L => [0xCB, 0xC5]
  | .set0AtHl => [0xCB, 0xC6]
  | .set0A => [0xCB, 0xC7]
  | .set1B => [0xCB, 0xC8]
  | .set1C => [0xCB, 0xC9]
  | .set1D => [0xCB, 0xCA]
  | .set1E => [0xCB, 0xCB]
  | .set1H => [0xCB, 0xCC]
  | .set1L => [0xCB, 0xCD]
  | .set1AtHl => [0xCB, 0xCE]
  | .set1A => [0xCB, 0xCF]
  | .set2B => [0xCB, 0xD0]
  | .set2C => [0xCB, 0xD1]
  | .set2D => [0xCB, 0xD2]
  | .set2E => [0xCB, 0xD3]
  | .set2H => [0xCB, 0xD4]
  | .set2L => [0xCB, 0xD5]
  | .set2AtHl => [0xCB, 0xD6]
  | .set2A => [0xCB, 0xD7]
  | .set3B => [0xCB, 0xD8]
  | .set3C => [0xCB, 0xD9]
  | .set3D => [0xCB, 0xDA]
  | .set3E => [0xCB, 0xDB]
  | .set3H => [0xCB, 0xDC]
  | .set3L => [0xCB, 0xDD]
  | .set3AtHl => [0xCB, 0xDE]
  | .set3A => [0xCB, 0xDF]
  | .set4B => [0xCB, 0xE0]
  | .set4C => [0xCB, 0xE1]
  | .set4D => [0xCB, 0xE2]
  | .set4E => [0xCB, 0xE3]
  | .set4H => [0xCB, 0xE4]
  | .set4L => [0xCB, 0xE5]
  | .set4AtHl => [0xCB, 0xE6]
  | .set4A => [0xCB, 0xE7]
  | .set5B => [0xCB, 0xE8]
  | .set5C => [0xCB, 0xE9]
  | .set5D => [0xCB, 0xEA]
  | .set5E => [0xCB, 0xEB]
  | .set5H => [0xCB, 0xEC]
  | .set5L => [0xCB, 0xED]
  | .set5AtHl => [0xCB, 0xEE]
  | .set5A => [0xCB, 0xEF]
  | .set6B => [0xCB, 0xF0]
  | .set6C => [0xCB, 0xF1]
  | .set6D => [0xCB, 0xF2]
  | .set6E => [0xCB, 0xF3]
  | .set6H => [0xCB, 0xF4]
  | .set6L => [0xCB, 0xF5]
  | .set6AtHl => [0xCB, 0xF6]
  | .set6A => [0xCB, 0xF7]
  | .set7B => [0xCB, 0xF8]
  | .set7C => [0xCB, 0xF9]
  | .set7D => [0xCB, 0xFA]
  | .set7E => [0xCB, 0xFB]
  | .set7H => [0xCB, 0xFC]
  | .set7L => [0xCB, 0xFD]
  | .set7AtHl => [0xCB, 0xFE]
  | .set7A => [0xCB, 0xFF]

/-- The opcode of an illegal instruction (R172), or none. -/
def Instr.illegalOpcode (i : Instr) : Option Byte :=
  match i with
  | .illegalD3 => some 0xD3
  | .illegalDB => some 0xDB
  | .illegalDD => some 0xDD
  | .illegalE3 => some 0xE3
  | .illegalE4 => some 0xE4
  | .illegalEB => some 0xEB
  | .illegalEC => some 0xEC
  | .illegalED => some 0xED
  | .illegalF4 => some 0xF4
  | .illegalFC => some 0xFC
  | .illegalFD => some 0xFD
  | _ => none

/-! ### The host's numbering of table words -/

/-- The bytes of the instruction whose table word is `w`, the operand bytes the table gives no bits being
zero. The table writes a CB row as the number 0xCB00 + op, the prefix in bits 15..8 (log entry 10); every
other word counts its bits from the first byte. -/
def tableWordBytes (nbits w : Nat) : List Byte :=
  let w := w % 2 ^ nbits
  if nbits = 16 ∧ w / 256 = 0xCB then [0xCB, BitVec.ofNat 8 w, 0]
  else [BitVec.ofNat 8 w, BitVec.ofNat 8 (w / 256), BitVec.ofNat 8 (w / 65536)]

/-- The instruction the decoder reads from a table word. The row PREFIX_CB is one byte long (length 1), so
its word is that byte alone. -/
def decodeTableWord (nbits w : Nat) : Option Instr :=
  let bytes := tableWordBytes nbits w
  match decode (if nbits = 8 ∧ w % 256 = 0xCB then bytes.take 1 else bytes) with
  | .ok (i, _) => some i
  | .error _ => none

/-! ### Assembly syntax (R176) and T-cycles -/

/-- A hexadecimal literal of `n` digits. -/
def hexLit (n v : Nat) : String :=
  "0x" ++ String.ofList ((List.range n).map fun k => (Nat.digitChar (v / 16 ^ (n - 1 - k) % 16)).toUpper)

/-- The signed offset of an e8 operand. -/
def signedLit (e : Byte) : String := toString e.toInt

/-- The instruction in the assembly syntax of R176. The prefix byte and the illegal opcodes, which have no
assembly line, are written by their table names. -/
def Instr.asm (i : Instr) : String :=
  match i with
  | .nop => "NOP"
  | .ldBcN16 n => "LD BC," ++ hexLit 4 n.toNat
  | .ldAtBcA => "LD (BC),A"
  | .incBc => "INC BC"
  | .incB => "INC B"
  | .decB => "DEC B"
  | .ldBN8 n => "LD B," ++ hexLit 2 n.toNat
  | .rlca => "RLCA"
  | .ldAtA16Sp a => "LD (" ++ hexLit 4 a.toNat ++ "),SP"
  | .addHlBc => "ADD HL,BC"
  | .ldAAtBc => "LD A,(BC)"
  | .decBc => "DEC BC"
  | .incC => "INC C"
  | .decC => "DEC C"
  | .ldCN8 n => "LD C," ++ hexLit 2 n.toNat
  | .rrca => "RRCA"
  | .stopN8 n => "STOP " ++ hexLit 2 n.toNat
  | .ldDeN16 n => "LD DE," ++ hexLit 4 n.toNat
  | .ldAtDeA => "LD (DE),A"
  | .incDe => "INC DE"
  | .incD => "INC D"
  | .decD => "DEC D"
  | .ldDN8 n => "LD D," ++ hexLit 2 n.toNat
  | .rla => "RLA"
  | .jrE8 e => "JR " ++ signedLit e
  | .addHlDe => "ADD HL,DE"
  | .ldAAtDe => "LD A,(DE)"
  | .decDe => "DEC DE"
  | .incE => "INC E"
  | .decE => "DEC E"
  | .ldEN8 n => "LD E," ++ hexLit 2 n.toNat
  | .rra => "RRA"
  | .jrNzE8 e => "JR NZ," ++ signedLit e
  | .ldHlN16 n => "LD HL," ++ hexLit 4 n.toNat
  | .ldAtHliA => "LD (HL+),A"
  | .incHl => "INC HL"
  | .incH => "INC H"
  | .decH => "DEC H"
  | .ldHN8 n => "LD H," ++ hexLit 2 n.toNat
  | .daa => "DAA"
  | .jrZE8 e => "JR Z," ++ signedLit e
  | .addHlHl => "ADD HL,HL"
  | .ldAAtHli => "LD A,(HL+)"
  | .decHl => "DEC HL"
  | .incL => "INC L"
  | .decL => "DEC L"
  | .ldLN8 n => "LD L," ++ hexLit 2 n.toNat
  | .cpl => "CPL"
  | .jrNcE8 e => "JR NC," ++ signedLit e
  | .ldSpN16 n => "LD SP," ++ hexLit 4 n.toNat
  | .ldAtHldA => "LD (HL-),A"
  | .incSp => "INC SP"
  | .incAtHl => "INC (HL)"
  | .decAtHl => "DEC (HL)"
  | .ldAtHlN8 n => "LD (HL)," ++ hexLit 2 n.toNat
  | .scf => "SCF"
  | .jrCE8 e => "JR C," ++ signedLit e
  | .addHlSp => "ADD HL,SP"
  | .ldAAtHld => "LD A,(HL-)"
  | .decSp => "DEC SP"
  | .incA => "INC A"
  | .decA => "DEC A"
  | .ldAN8 n => "LD A," ++ hexLit 2 n.toNat
  | .ccf => "CCF"
  | .ldBB => "LD B,B"
  | .ldBC => "LD B,C"
  | .ldBD => "LD B,D"
  | .ldBE => "LD B,E"
  | .ldBH => "LD B,H"
  | .ldBL => "LD B,L"
  | .ldBAtHl => "LD B,(HL)"
  | .ldBA => "LD B,A"
  | .ldCB => "LD C,B"
  | .ldCC => "LD C,C"
  | .ldCD => "LD C,D"
  | .ldCE => "LD C,E"
  | .ldCH => "LD C,H"
  | .ldCL => "LD C,L"
  | .ldCAtHl => "LD C,(HL)"
  | .ldCA => "LD C,A"
  | .ldDB => "LD D,B"
  | .ldDC => "LD D,C"
  | .ldDD => "LD D,D"
  | .ldDE => "LD D,E"
  | .ldDH => "LD D,H"
  | .ldDL => "LD D,L"
  | .ldDAtHl => "LD D,(HL)"
  | .ldDA => "LD D,A"
  | .ldEB => "LD E,B"
  | .ldEC => "LD E,C"
  | .ldED => "LD E,D"
  | .ldEE => "LD E,E"
  | .ldEH => "LD E,H"
  | .ldEL => "LD E,L"
  | .ldEAtHl => "LD E,(HL)"
  | .ldEA => "LD E,A"
  | .ldHB => "LD H,B"
  | .ldHC => "LD H,C"
  | .ldHD => "LD H,D"
  | .ldHE => "LD H,E"
  | .ldHH => "LD H,H"
  | .ldHL => "LD H,L"
  | .ldHAtHl => "LD H,(HL)"
  | .ldHA => "LD H,A"
  | .ldLB => "LD L,B"
  | .ldLC => "LD L,C"
  | .ldLD => "LD L,D"
  | .ldLE => "LD L,E"
  | .ldLH => "LD L,H"
  | .ldLL => "LD L,L"
  | .ldLAtHl => "LD L,(HL)"
  | .ldLA => "LD L,A"
  | .ldAtHlB => "LD (HL),B"
  | .ldAtHlC => "LD (HL),C"
  | .ldAtHlD => "LD (HL),D"
  | .ldAtHlE => "LD (HL),E"
  | .ldAtHlH => "LD (HL),H"
  | .ldAtHlL => "LD (HL),L"
  | .halt => "HALT"
  | .ldAtHlA => "LD (HL),A"
  | .ldAB => "LD A,B"
  | .ldAC => "LD A,C"
  | .ldAD => "LD A,D"
  | .ldAE => "LD A,E"
  | .ldAH => "LD A,H"
  | .ldAL => "LD A,L"
  | .ldAAtHl => "LD A,(HL)"
  | .ldAA => "LD A,A"
  | .addAB => "ADD A,B"
  | .addAC => "ADD A,C"
  | .addAD => "ADD A,D"
  | .addAE => "ADD A,E"
  | .addAH => "ADD A,H"
  | .addAL => "ADD A,L"
  | .addAAtHl => "ADD A,(HL)"
  | .addAA => "ADD A,A"
  | .adcAB => "ADC A,B"
  | .adcAC => "ADC A,C"
  | .adcAD => "ADC A,D"
  | .adcAE => "ADC A,E"
  | .adcAH => "ADC A,H"
  | .adcAL => "ADC A,L"
  | .adcAAtHl => "ADC A,(HL)"
  | .adcAA => "ADC A,A"
  | .subAB => "SUB A,B"
  | .subAC => "SUB A,C"
  | .subAD => "SUB A,D"
  | .subAE => "SUB A,E"
  | .subAH => "SUB A,H"
  | .subAL => "SUB A,L"
  | .subAAtHl => "SUB A,(HL)"
  | .subAA => "SUB A,A"
  | .sbcAB => "SBC A,B"
  | .sbcAC => "SBC A,C"
  | .sbcAD => "SBC A,D"
  | .sbcAE => "SBC A,E"
  | .sbcAH => "SBC A,H"
  | .sbcAL => "SBC A,L"
  | .sbcAAtHl => "SBC A,(HL)"
  | .sbcAA => "SBC A,A"
  | .andAB => "AND A,B"
  | .andAC => "AND A,C"
  | .andAD => "AND A,D"
  | .andAE => "AND A,E"
  | .andAH => "AND A,H"
  | .andAL => "AND A,L"
  | .andAAtHl => "AND A,(HL)"
  | .andAA => "AND A,A"
  | .xorAB => "XOR A,B"
  | .xorAC => "XOR A,C"
  | .xorAD => "XOR A,D"
  | .xorAE => "XOR A,E"
  | .xorAH => "XOR A,H"
  | .xorAL => "XOR A,L"
  | .xorAAtHl => "XOR A,(HL)"
  | .xorAA => "XOR A,A"
  | .orAB => "OR A,B"
  | .orAC => "OR A,C"
  | .orAD => "OR A,D"
  | .orAE => "OR A,E"
  | .orAH => "OR A,H"
  | .orAL => "OR A,L"
  | .orAAtHl => "OR A,(HL)"
  | .orAA => "OR A,A"
  | .cpAB => "CP A,B"
  | .cpAC => "CP A,C"
  | .cpAD => "CP A,D"
  | .cpAE => "CP A,E"
  | .cpAH => "CP A,H"
  | .cpAL => "CP A,L"
  | .cpAAtHl => "CP A,(HL)"
  | .cpAA => "CP A,A"
  | .retNz => "RET NZ"
  | .popBc => "POP BC"
  | .jpNzA16 a => "JP NZ," ++ hexLit 4 a.toNat
  | .jpA16 a => "JP " ++ hexLit 4 a.toNat
  | .callNzA16 a => "CALL NZ," ++ hexLit 4 a.toNat
  | .pushBc => "PUSH BC"
  | .addAN8 n => "ADD A," ++ hexLit 2 n.toNat
  | .rst00 => "RST 0x00"
  | .retZ => "RET Z"
  | .ret => "RET"
  | .jpZA16 a => "JP Z," ++ hexLit 4 a.toNat
  | .prefixCb => "PREFIX CB"
  | .callZA16 a => "CALL Z," ++ hexLit 4 a.toNat
  | .callA16 a => "CALL " ++ hexLit 4 a.toNat
  | .adcAN8 n => "ADC A," ++ hexLit 2 n.toNat
  | .rst08 => "RST 0x08"
  | .retNc => "RET NC"
  | .popDe => "POP DE"
  | .jpNcA16 a => "JP NC," ++ hexLit 4 a.toNat
  | .illegalD3 => "ILLEGAL_D3"
  | .callNcA16 a => "CALL NC," ++ hexLit 4 a.toNat
  | .pushDe => "PUSH DE"
  | .subAN8 n => "SUB A," ++ hexLit 2 n.toNat
  | .rst10 => "RST 0x10"
  | .retC => "RET C"
  | .reti => "RETI"
  | .jpCA16 a => "JP C," ++ hexLit 4 a.toNat
  | .illegalDB => "ILLEGAL_DB"
  | .callCA16 a => "CALL C," ++ hexLit 4 a.toNat
  | .illegalDD => "ILLEGAL_DD"
  | .sbcAN8 n => "SBC A," ++ hexLit 2 n.toNat
  | .rst18 => "RST 0x18"
  | .ldhAtA8A a => "LDH (" ++ hexLit 2 a.toNat ++ "),A"
  | .popHl => "POP HL"
  | .ldhAtCA => "LDH (C),A"
  | .illegalE3 => "ILLEGAL_E3"
  | .illegalE4 => "ILLEGAL_E4"
  | .pushHl => "PUSH HL"
  | .andAN8 n => "AND A," ++ hexLit 2 n.toNat
  | .rst20 => "RST 0x20"
  | .addSpE8 e => "ADD SP," ++ signedLit e
  | .jpHl => "JP HL"
  | .ldAtA16A a => "LD (" ++ hexLit 4 a.toNat ++ "),A"
  | .illegalEB => "ILLEGAL_EB"
  | .illegalEC => "ILLEGAL_EC"
  | .illegalED => "ILLEGAL_ED"
  | .xorAN8 n => "XOR A," ++ hexLit 2 n.toNat
  | .rst28 => "RST 0x28"
  | .ldhAAtA8 a => "LDH A,(" ++ hexLit 2 a.toNat ++ ")"
  | .popAf => "POP AF"
  | .ldhAAtC => "LDH A,(C)"
  | .di => "DI"
  | .illegalF4 => "ILLEGAL_F4"
  | .pushAf => "PUSH AF"
  | .orAN8 n => "OR A," ++ hexLit 2 n.toNat
  | .rst30 => "RST 0x30"
  | .ldHlSpE8 e => "LD HL,SP+" ++ signedLit e
  | .ldSpHl => "LD SP,HL"
  | .ldAAtA16 a => "LD A,(" ++ hexLit 4 a.toNat ++ ")"
  | .ei => "EI"
  | .illegalFC => "ILLEGAL_FC"
  | .illegalFD => "ILLEGAL_FD"
  | .cpAN8 n => "CP A," ++ hexLit 2 n.toNat
  | .rst38 => "RST 0x38"
  | .rlcB => "RLC B"
  | .rlcC => "RLC C"
  | .rlcD => "RLC D"
  | .rlcE => "RLC E"
  | .rlcH => "RLC H"
  | .rlcL => "RLC L"
  | .rlcAtHl => "RLC (HL)"
  | .rlcA => "RLC A"
  | .rrcB => "RRC B"
  | .rrcC => "RRC C"
  | .rrcD => "RRC D"
  | .rrcE => "RRC E"
  | .rrcH => "RRC H"
  | .rrcL => "RRC L"
  | .rrcAtHl => "RRC (HL)"
  | .rrcA => "RRC A"
  | .rlB => "RL B"
  | .rlC => "RL C"
  | .rlD => "RL D"
  | .rlE => "RL E"
  | .rlH => "RL H"
  | .rlL => "RL L"
  | .rlAtHl => "RL (HL)"
  | .rlA => "RL A"
  | .rrB => "RR B"
  | .rrC => "RR C"
  | .rrD => "RR D"
  | .rrE => "RR E"
  | .rrH => "RR H"
  | .rrL => "RR L"
  | .rrAtHl => "RR (HL)"
  | .rrA => "RR A"
  | .slaB => "SLA B"
  | .slaC => "SLA C"
  | .slaD => "SLA D"
  | .slaE => "SLA E"
  | .slaH => "SLA H"
  | .slaL => "SLA L"
  | .slaAtHl => "SLA (HL)"
  | .slaA => "SLA A"
  | .sraB => "SRA B"
  | .sraC => "SRA C"
  | .sraD => "SRA D"
  | .sraE => "SRA E"
  | .sraH => "SRA H"
  | .sraL => "SRA L"
  | .sraAtHl => "SRA (HL)"
  | .sraA => "SRA A"
  | .swapB => "SWAP B"
  | .swapC => "SWAP C"
  | .swapD => "SWAP D"
  | .swapE => "SWAP E"
  | .swapH => "SWAP H"
  | .swapL => "SWAP L"
  | .swapAtHl => "SWAP (HL)"
  | .swapA => "SWAP A"
  | .srlB => "SRL B"
  | .srlC => "SRL C"
  | .srlD => "SRL D"
  | .srlE => "SRL E"
  | .srlH => "SRL H"
  | .srlL => "SRL L"
  | .srlAtHl => "SRL (HL)"
  | .srlA => "SRL A"
  | .bit0B => "BIT 0,B"
  | .bit0C => "BIT 0,C"
  | .bit0D => "BIT 0,D"
  | .bit0E => "BIT 0,E"
  | .bit0H => "BIT 0,H"
  | .bit0L => "BIT 0,L"
  | .bit0AtHl => "BIT 0,(HL)"
  | .bit0A => "BIT 0,A"
  | .bit1B => "BIT 1,B"
  | .bit1C => "BIT 1,C"
  | .bit1D => "BIT 1,D"
  | .bit1E => "BIT 1,E"
  | .bit1H => "BIT 1,H"
  | .bit1L => "BIT 1,L"
  | .bit1AtHl => "BIT 1,(HL)"
  | .bit1A => "BIT 1,A"
  | .bit2B => "BIT 2,B"
  | .bit2C => "BIT 2,C"
  | .bit2D => "BIT 2,D"
  | .bit2E => "BIT 2,E"
  | .bit2H => "BIT 2,H"
  | .bit2L => "BIT 2,L"
  | .bit2AtHl => "BIT 2,(HL)"
  | .bit2A => "BIT 2,A"
  | .bit3B => "BIT 3,B"
  | .bit3C => "BIT 3,C"
  | .bit3D => "BIT 3,D"
  | .bit3E => "BIT 3,E"
  | .bit3H => "BIT 3,H"
  | .bit3L => "BIT 3,L"
  | .bit3AtHl => "BIT 3,(HL)"
  | .bit3A => "BIT 3,A"
  | .bit4B => "BIT 4,B"
  | .bit4C => "BIT 4,C"
  | .bit4D => "BIT 4,D"
  | .bit4E => "BIT 4,E"
  | .bit4H => "BIT 4,H"
  | .bit4L => "BIT 4,L"
  | .bit4AtHl => "BIT 4,(HL)"
  | .bit4A => "BIT 4,A"
  | .bit5B => "BIT 5,B"
  | .bit5C => "BIT 5,C"
  | .bit5D => "BIT 5,D"
  | .bit5E => "BIT 5,E"
  | .bit5H => "BIT 5,H"
  | .bit5L => "BIT 5,L"
  | .bit5AtHl => "BIT 5,(HL)"
  | .bit5A => "BIT 5,A"
  | .bit6B => "BIT 6,B"
  | .bit6C => "BIT 6,C"
  | .bit6D => "BIT 6,D"
  | .bit6E => "BIT 6,E"
  | .bit6H => "BIT 6,H"
  | .bit6L => "BIT 6,L"
  | .bit6AtHl => "BIT 6,(HL)"
  | .bit6A => "BIT 6,A"
  | .bit7B => "BIT 7,B"
  | .bit7C => "BIT 7,C"
  | .bit7D => "BIT 7,D"
  | .bit7E => "BIT 7,E"
  | .bit7H => "BIT 7,H"
  | .bit7L => "BIT 7,L"
  | .bit7AtHl => "BIT 7,(HL)"
  | .bit7A => "BIT 7,A"
  | .res0B => "RES 0,B"
  | .res0C => "RES 0,C"
  | .res0D => "RES 0,D"
  | .res0E => "RES 0,E"
  | .res0H => "RES 0,H"
  | .res0L => "RES 0,L"
  | .res0AtHl => "RES 0,(HL)"
  | .res0A => "RES 0,A"
  | .res1B => "RES 1,B"
  | .res1C => "RES 1,C"
  | .res1D => "RES 1,D"
  | .res1E => "RES 1,E"
  | .res1H => "RES 1,H"
  | .res1L => "RES 1,L"
  | .res1AtHl => "RES 1,(HL)"
  | .res1A => "RES 1,A"
  | .res2B => "RES 2,B"
  | .res2C => "RES 2,C"
  | .res2D => "RES 2,D"
  | .res2E => "RES 2,E"
  | .res2H => "RES 2,H"
  | .res2L => "RES 2,L"
  | .res2AtHl => "RES 2,(HL)"
  | .res2A => "RES 2,A"
  | .res3B => "RES 3,B"
  | .res3C => "RES 3,C"
  | .res3D => "RES 3,D"
  | .res3E => "RES 3,E"
  | .res3H => "RES 3,H"
  | .res3L => "RES 3,L"
  | .res3AtHl => "RES 3,(HL)"
  | .res3A => "RES 3,A"
  | .res4B => "RES 4,B"
  | .res4C => "RES 4,C"
  | .res4D => "RES 4,D"
  | .res4E => "RES 4,E"
  | .res4H => "RES 4,H"
  | .res4L => "RES 4,L"
  | .res4AtHl => "RES 4,(HL)"
  | .res4A => "RES 4,A"
  | .res5B => "RES 5,B"
  | .res5C => "RES 5,C"
  | .res5D => "RES 5,D"
  | .res5E => "RES 5,E"
  | .res5H => "RES 5,H"
  | .res5L => "RES 5,L"
  | .res5AtHl => "RES 5,(HL)"
  | .res5A => "RES 5,A"
  | .res6B => "RES 6,B"
  | .res6C => "RES 6,C"
  | .res6D => "RES 6,D"
  | .res6E => "RES 6,E"
  | .res6H => "RES 6,H"
  | .res6L => "RES 6,L"
  | .res6AtHl => "RES 6,(HL)"
  | .res6A => "RES 6,A"
  | .res7B => "RES 7,B"
  | .res7C => "RES 7,C"
  | .res7D => "RES 7,D"
  | .res7E => "RES 7,E"
  | .res7H => "RES 7,H"
  | .res7L => "RES 7,L"
  | .res7AtHl => "RES 7,(HL)"
  | .res7A => "RES 7,A"
  | .set0B => "SET 0,B"
  | .set0C => "SET 0,C"
  | .set0D => "SET 0,D"
  | .set0E => "SET 0,E"
  | .set0H => "SET 0,H"
  | .set0L => "SET 0,L"
  | .set0AtHl => "SET 0,(HL)"
  | .set0A => "SET 0,A"
  | .set1B => "SET 1,B"
  | .set1C => "SET 1,C"
  | .set1D => "SET 1,D"
  | .set1E => "SET 1,E"
  | .set1H => "SET 1,H"
  | .set1L => "SET 1,L"
  | .set1AtHl => "SET 1,(HL)"
  | .set1A => "SET 1,A"
  | .set2B => "SET 2,B"
  | .set2C => "SET 2,C"
  | .set2D => "SET 2,D"
  | .set2E => "SET 2,E"
  | .set2H => "SET 2,H"
  | .set2L => "SET 2,L"
  | .set2AtHl => "SET 2,(HL)"
  | .set2A => "SET 2,A"
  | .set3B => "SET 3,B"
  | .set3C => "SET 3,C"
  | .set3D => "SET 3,D"
  | .set3E => "SET 3,E"
  | .set3H => "SET 3,H"
  | .set3L => "SET 3,L"
  | .set3AtHl => "SET 3,(HL)"
  | .set3A => "SET 3,A"
  | .set4B => "SET 4,B"
  | .set4C => "SET 4,C"
  | .set4D => "SET 4,D"
  | .set4E => "SET 4,E"
  | .set4H => "SET 4,H"
  | .set4L => "SET 4,L"
  | .set4AtHl => "SET 4,(HL)"
  | .set4A => "SET 4,A"
  | .set5B => "SET 5,B"
  | .set5C => "SET 5,C"
  | .set5D => "SET 5,D"
  | .set5E => "SET 5,E"
  | .set5H => "SET 5,H"
  | .set5L => "SET 5,L"
  | .set5AtHl => "SET 5,(HL)"
  | .set5A => "SET 5,A"
  | .set6B => "SET 6,B"
  | .set6C => "SET 6,C"
  | .set6D => "SET 6,D"
  | .set6E => "SET 6,E"
  | .set6H => "SET 6,H"
  | .set6L => "SET 6,L"
  | .set6AtHl => "SET 6,(HL)"
  | .set6A => "SET 6,A"
  | .set7B => "SET 7,B"
  | .set7C => "SET 7,C"
  | .set7D => "SET 7,D"
  | .set7E => "SET 7,E"
  | .set7H => "SET 7,H"
  | .set7L => "SET 7,L"
  | .set7AtHl => "SET 7,(HL)"
  | .set7A => "SET 7,A"

/-- The T-cycles of a row of opcode_table.json, taken and not taken (R175). A row with one count has it twice;
an illegal row has none, and none are credited (R386); the PREFIX_CB row's own 4 are never added (R385). -/
def Instr.tableCycles (i : Instr) : Nat × Nat :=
  match i with
  | .nop => (4, 4)
  | .ldBcN16 _ => (12, 12)
  | .ldAtBcA => (8, 8)
  | .incBc => (8, 8)
  | .incB => (4, 4)
  | .decB => (4, 4)
  | .ldBN8 _ => (8, 8)
  | .rlca => (4, 4)
  | .ldAtA16Sp _ => (20, 20)
  | .addHlBc => (8, 8)
  | .ldAAtBc => (8, 8)
  | .decBc => (8, 8)
  | .incC => (4, 4)
  | .decC => (4, 4)
  | .ldCN8 _ => (8, 8)
  | .rrca => (4, 4)
  | .stopN8 _ => (4, 4)
  | .ldDeN16 _ => (12, 12)
  | .ldAtDeA => (8, 8)
  | .incDe => (8, 8)
  | .incD => (4, 4)
  | .decD => (4, 4)
  | .ldDN8 _ => (8, 8)
  | .rla => (4, 4)
  | .jrE8 _ => (12, 12)
  | .addHlDe => (8, 8)
  | .ldAAtDe => (8, 8)
  | .decDe => (8, 8)
  | .incE => (4, 4)
  | .decE => (4, 4)
  | .ldEN8 _ => (8, 8)
  | .rra => (4, 4)
  | .jrNzE8 _ => (12, 8)
  | .ldHlN16 _ => (12, 12)
  | .ldAtHliA => (8, 8)
  | .incHl => (8, 8)
  | .incH => (4, 4)
  | .decH => (4, 4)
  | .ldHN8 _ => (8, 8)
  | .daa => (4, 4)
  | .jrZE8 _ => (12, 8)
  | .addHlHl => (8, 8)
  | .ldAAtHli => (8, 8)
  | .decHl => (8, 8)
  | .incL => (4, 4)
  | .decL => (4, 4)
  | .ldLN8 _ => (8, 8)
  | .cpl => (4, 4)
  | .jrNcE8 _ => (12, 8)
  | .ldSpN16 _ => (12, 12)
  | .ldAtHldA => (8, 8)
  | .incSp => (8, 8)
  | .incAtHl => (12, 12)
  | .decAtHl => (12, 12)
  | .ldAtHlN8 _ => (12, 12)
  | .scf => (4, 4)
  | .jrCE8 _ => (12, 8)
  | .addHlSp => (8, 8)
  | .ldAAtHld => (8, 8)
  | .decSp => (8, 8)
  | .incA => (4, 4)
  | .decA => (4, 4)
  | .ldAN8 _ => (8, 8)
  | .ccf => (4, 4)
  | .ldBB => (4, 4)
  | .ldBC => (4, 4)
  | .ldBD => (4, 4)
  | .ldBE => (4, 4)
  | .ldBH => (4, 4)
  | .ldBL => (4, 4)
  | .ldBAtHl => (8, 8)
  | .ldBA => (4, 4)
  | .ldCB => (4, 4)
  | .ldCC => (4, 4)
  | .ldCD => (4, 4)
  | .ldCE => (4, 4)
  | .ldCH => (4, 4)
  | .ldCL => (4, 4)
  | .ldCAtHl => (8, 8)
  | .ldCA => (4, 4)
  | .ldDB => (4, 4)
  | .ldDC => (4, 4)
  | .ldDD => (4, 4)
  | .ldDE => (4, 4)
  | .ldDH => (4, 4)
  | .ldDL => (4, 4)
  | .ldDAtHl => (8, 8)
  | .ldDA => (4, 4)
  | .ldEB => (4, 4)
  | .ldEC => (4, 4)
  | .ldED => (4, 4)
  | .ldEE => (4, 4)
  | .ldEH => (4, 4)
  | .ldEL => (4, 4)
  | .ldEAtHl => (8, 8)
  | .ldEA => (4, 4)
  | .ldHB => (4, 4)
  | .ldHC => (4, 4)
  | .ldHD => (4, 4)
  | .ldHE => (4, 4)
  | .ldHH => (4, 4)
  | .ldHL => (4, 4)
  | .ldHAtHl => (8, 8)
  | .ldHA => (4, 4)
  | .ldLB => (4, 4)
  | .ldLC => (4, 4)
  | .ldLD => (4, 4)
  | .ldLE => (4, 4)
  | .ldLH => (4, 4)
  | .ldLL => (4, 4)
  | .ldLAtHl => (8, 8)
  | .ldLA => (4, 4)
  | .ldAtHlB => (8, 8)
  | .ldAtHlC => (8, 8)
  | .ldAtHlD => (8, 8)
  | .ldAtHlE => (8, 8)
  | .ldAtHlH => (8, 8)
  | .ldAtHlL => (8, 8)
  | .halt => (4, 4)
  | .ldAtHlA => (8, 8)
  | .ldAB => (4, 4)
  | .ldAC => (4, 4)
  | .ldAD => (4, 4)
  | .ldAE => (4, 4)
  | .ldAH => (4, 4)
  | .ldAL => (4, 4)
  | .ldAAtHl => (8, 8)
  | .ldAA => (4, 4)
  | .addAB => (4, 4)
  | .addAC => (4, 4)
  | .addAD => (4, 4)
  | .addAE => (4, 4)
  | .addAH => (4, 4)
  | .addAL => (4, 4)
  | .addAAtHl => (8, 8)
  | .addAA => (4, 4)
  | .adcAB => (4, 4)
  | .adcAC => (4, 4)
  | .adcAD => (4, 4)
  | .adcAE => (4, 4)
  | .adcAH => (4, 4)
  | .adcAL => (4, 4)
  | .adcAAtHl => (8, 8)
  | .adcAA => (4, 4)
  | .subAB => (4, 4)
  | .subAC => (4, 4)
  | .subAD => (4, 4)
  | .subAE => (4, 4)
  | .subAH => (4, 4)
  | .subAL => (4, 4)
  | .subAAtHl => (8, 8)
  | .subAA => (4, 4)
  | .sbcAB => (4, 4)
  | .sbcAC => (4, 4)
  | .sbcAD => (4, 4)
  | .sbcAE => (4, 4)
  | .sbcAH => (4, 4)
  | .sbcAL => (4, 4)
  | .sbcAAtHl => (8, 8)
  | .sbcAA => (4, 4)
  | .andAB => (4, 4)
  | .andAC => (4, 4)
  | .andAD => (4, 4)
  | .andAE => (4, 4)
  | .andAH => (4, 4)
  | .andAL => (4, 4)
  | .andAAtHl => (8, 8)
  | .andAA => (4, 4)
  | .xorAB => (4, 4)
  | .xorAC => (4, 4)
  | .xorAD => (4, 4)
  | .xorAE => (4, 4)
  | .xorAH => (4, 4)
  | .xorAL => (4, 4)
  | .xorAAtHl => (8, 8)
  | .xorAA => (4, 4)
  | .orAB => (4, 4)
  | .orAC => (4, 4)
  | .orAD => (4, 4)
  | .orAE => (4, 4)
  | .orAH => (4, 4)
  | .orAL => (4, 4)
  | .orAAtHl => (8, 8)
  | .orAA => (4, 4)
  | .cpAB => (4, 4)
  | .cpAC => (4, 4)
  | .cpAD => (4, 4)
  | .cpAE => (4, 4)
  | .cpAH => (4, 4)
  | .cpAL => (4, 4)
  | .cpAAtHl => (8, 8)
  | .cpAA => (4, 4)
  | .retNz => (20, 8)
  | .popBc => (12, 12)
  | .jpNzA16 _ => (16, 12)
  | .jpA16 _ => (16, 16)
  | .callNzA16 _ => (24, 12)
  | .pushBc => (16, 16)
  | .addAN8 _ => (8, 8)
  | .rst00 => (16, 16)
  | .retZ => (20, 8)
  | .ret => (16, 16)
  | .jpZA16 _ => (16, 12)
  | .prefixCb => (4, 4)
  | .callZA16 _ => (24, 12)
  | .callA16 _ => (24, 24)
  | .adcAN8 _ => (8, 8)
  | .rst08 => (16, 16)
  | .retNc => (20, 8)
  | .popDe => (12, 12)
  | .jpNcA16 _ => (16, 12)
  | .illegalD3 => (0, 0)
  | .callNcA16 _ => (24, 12)
  | .pushDe => (16, 16)
  | .subAN8 _ => (8, 8)
  | .rst10 => (16, 16)
  | .retC => (20, 8)
  | .reti => (16, 16)
  | .jpCA16 _ => (16, 12)
  | .illegalDB => (0, 0)
  | .callCA16 _ => (24, 12)
  | .illegalDD => (0, 0)
  | .sbcAN8 _ => (8, 8)
  | .rst18 => (16, 16)
  | .ldhAtA8A _ => (12, 12)
  | .popHl => (12, 12)
  | .ldhAtCA => (8, 8)
  | .illegalE3 => (0, 0)
  | .illegalE4 => (0, 0)
  | .pushHl => (16, 16)
  | .andAN8 _ => (8, 8)
  | .rst20 => (16, 16)
  | .addSpE8 _ => (16, 16)
  | .jpHl => (4, 4)
  | .ldAtA16A _ => (16, 16)
  | .illegalEB => (0, 0)
  | .illegalEC => (0, 0)
  | .illegalED => (0, 0)
  | .xorAN8 _ => (8, 8)
  | .rst28 => (16, 16)
  | .ldhAAtA8 _ => (12, 12)
  | .popAf => (12, 12)
  | .ldhAAtC => (8, 8)
  | .di => (4, 4)
  | .illegalF4 => (0, 0)
  | .pushAf => (16, 16)
  | .orAN8 _ => (8, 8)
  | .rst30 => (16, 16)
  | .ldHlSpE8 _ => (12, 12)
  | .ldSpHl => (8, 8)
  | .ldAAtA16 _ => (16, 16)
  | .ei => (4, 4)
  | .illegalFC => (0, 0)
  | .illegalFD => (0, 0)
  | .cpAN8 _ => (8, 8)
  | .rst38 => (16, 16)
  | .rlcB => (8, 8)
  | .rlcC => (8, 8)
  | .rlcD => (8, 8)
  | .rlcE => (8, 8)
  | .rlcH => (8, 8)
  | .rlcL => (8, 8)
  | .rlcAtHl => (16, 16)
  | .rlcA => (8, 8)
  | .rrcB => (8, 8)
  | .rrcC => (8, 8)
  | .rrcD => (8, 8)
  | .rrcE => (8, 8)
  | .rrcH => (8, 8)
  | .rrcL => (8, 8)
  | .rrcAtHl => (16, 16)
  | .rrcA => (8, 8)
  | .rlB => (8, 8)
  | .rlC => (8, 8)
  | .rlD => (8, 8)
  | .rlE => (8, 8)
  | .rlH => (8, 8)
  | .rlL => (8, 8)
  | .rlAtHl => (16, 16)
  | .rlA => (8, 8)
  | .rrB => (8, 8)
  | .rrC => (8, 8)
  | .rrD => (8, 8)
  | .rrE => (8, 8)
  | .rrH => (8, 8)
  | .rrL => (8, 8)
  | .rrAtHl => (16, 16)
  | .rrA => (8, 8)
  | .slaB => (8, 8)
  | .slaC => (8, 8)
  | .slaD => (8, 8)
  | .slaE => (8, 8)
  | .slaH => (8, 8)
  | .slaL => (8, 8)
  | .slaAtHl => (16, 16)
  | .slaA => (8, 8)
  | .sraB => (8, 8)
  | .sraC => (8, 8)
  | .sraD => (8, 8)
  | .sraE => (8, 8)
  | .sraH => (8, 8)
  | .sraL => (8, 8)
  | .sraAtHl => (16, 16)
  | .sraA => (8, 8)
  | .swapB => (8, 8)
  | .swapC => (8, 8)
  | .swapD => (8, 8)
  | .swapE => (8, 8)
  | .swapH => (8, 8)
  | .swapL => (8, 8)
  | .swapAtHl => (16, 16)
  | .swapA => (8, 8)
  | .srlB => (8, 8)
  | .srlC => (8, 8)
  | .srlD => (8, 8)
  | .srlE => (8, 8)
  | .srlH => (8, 8)
  | .srlL => (8, 8)
  | .srlAtHl => (16, 16)
  | .srlA => (8, 8)
  | .bit0B => (8, 8)
  | .bit0C => (8, 8)
  | .bit0D => (8, 8)
  | .bit0E => (8, 8)
  | .bit0H => (8, 8)
  | .bit0L => (8, 8)
  | .bit0AtHl => (12, 12)
  | .bit0A => (8, 8)
  | .bit1B => (8, 8)
  | .bit1C => (8, 8)
  | .bit1D => (8, 8)
  | .bit1E => (8, 8)
  | .bit1H => (8, 8)
  | .bit1L => (8, 8)
  | .bit1AtHl => (12, 12)
  | .bit1A => (8, 8)
  | .bit2B => (8, 8)
  | .bit2C => (8, 8)
  | .bit2D => (8, 8)
  | .bit2E => (8, 8)
  | .bit2H => (8, 8)
  | .bit2L => (8, 8)
  | .bit2AtHl => (12, 12)
  | .bit2A => (8, 8)
  | .bit3B => (8, 8)
  | .bit3C => (8, 8)
  | .bit3D => (8, 8)
  | .bit3E => (8, 8)
  | .bit3H => (8, 8)
  | .bit3L => (8, 8)
  | .bit3AtHl => (12, 12)
  | .bit3A => (8, 8)
  | .bit4B => (8, 8)
  | .bit4C => (8, 8)
  | .bit4D => (8, 8)
  | .bit4E => (8, 8)
  | .bit4H => (8, 8)
  | .bit4L => (8, 8)
  | .bit4AtHl => (12, 12)
  | .bit4A => (8, 8)
  | .bit5B => (8, 8)
  | .bit5C => (8, 8)
  | .bit5D => (8, 8)
  | .bit5E => (8, 8)
  | .bit5H => (8, 8)
  | .bit5L => (8, 8)
  | .bit5AtHl => (12, 12)
  | .bit5A => (8, 8)
  | .bit6B => (8, 8)
  | .bit6C => (8, 8)
  | .bit6D => (8, 8)
  | .bit6E => (8, 8)
  | .bit6H => (8, 8)
  | .bit6L => (8, 8)
  | .bit6AtHl => (12, 12)
  | .bit6A => (8, 8)
  | .bit7B => (8, 8)
  | .bit7C => (8, 8)
  | .bit7D => (8, 8)
  | .bit7E => (8, 8)
  | .bit7H => (8, 8)
  | .bit7L => (8, 8)
  | .bit7AtHl => (12, 12)
  | .bit7A => (8, 8)
  | .res0B => (8, 8)
  | .res0C => (8, 8)
  | .res0D => (8, 8)
  | .res0E => (8, 8)
  | .res0H => (8, 8)
  | .res0L => (8, 8)
  | .res0AtHl => (16, 16)
  | .res0A => (8, 8)
  | .res1B => (8, 8)
  | .res1C => (8, 8)
  | .res1D => (8, 8)
  | .res1E => (8, 8)
  | .res1H => (8, 8)
  | .res1L => (8, 8)
  | .res1AtHl => (16, 16)
  | .res1A => (8, 8)
  | .res2B => (8, 8)
  | .res2C => (8, 8)
  | .res2D => (8, 8)
  | .res2E => (8, 8)
  | .res2H => (8, 8)
  | .res2L => (8, 8)
  | .res2AtHl => (16, 16)
  | .res2A => (8, 8)
  | .res3B => (8, 8)
  | .res3C => (8, 8)
  | .res3D => (8, 8)
  | .res3E => (8, 8)
  | .res3H => (8, 8)
  | .res3L => (8, 8)
  | .res3AtHl => (16, 16)
  | .res3A => (8, 8)
  | .res4B => (8, 8)
  | .res4C => (8, 8)
  | .res4D => (8, 8)
  | .res4E => (8, 8)
  | .res4H => (8, 8)
  | .res4L => (8, 8)
  | .res4AtHl => (16, 16)
  | .res4A => (8, 8)
  | .res5B => (8, 8)
  | .res5C => (8, 8)
  | .res5D => (8, 8)
  | .res5E => (8, 8)
  | .res5H => (8, 8)
  | .res5L => (8, 8)
  | .res5AtHl => (16, 16)
  | .res5A => (8, 8)
  | .res6B => (8, 8)
  | .res6C => (8, 8)
  | .res6D => (8, 8)
  | .res6E => (8, 8)
  | .res6H => (8, 8)
  | .res6L => (8, 8)
  | .res6AtHl => (16, 16)
  | .res6A => (8, 8)
  | .res7B => (8, 8)
  | .res7C => (8, 8)
  | .res7D => (8, 8)
  | .res7E => (8, 8)
  | .res7H => (8, 8)
  | .res7L => (8, 8)
  | .res7AtHl => (16, 16)
  | .res7A => (8, 8)
  | .set0B => (8, 8)
  | .set0C => (8, 8)
  | .set0D => (8, 8)
  | .set0E => (8, 8)
  | .set0H => (8, 8)
  | .set0L => (8, 8)
  | .set0AtHl => (16, 16)
  | .set0A => (8, 8)
  | .set1B => (8, 8)
  | .set1C => (8, 8)
  | .set1D => (8, 8)
  | .set1E => (8, 8)
  | .set1H => (8, 8)
  | .set1L => (8, 8)
  | .set1AtHl => (16, 16)
  | .set1A => (8, 8)
  | .set2B => (8, 8)
  | .set2C => (8, 8)
  | .set2D => (8, 8)
  | .set2E => (8, 8)
  | .set2H => (8, 8)
  | .set2L => (8, 8)
  | .set2AtHl => (16, 16)
  | .set2A => (8, 8)
  | .set3B => (8, 8)
  | .set3C => (8, 8)
  | .set3D => (8, 8)
  | .set3E => (8, 8)
  | .set3H => (8, 8)
  | .set3L => (8, 8)
  | .set3AtHl => (16, 16)
  | .set3A => (8, 8)
  | .set4B => (8, 8)
  | .set4C => (8, 8)
  | .set4D => (8, 8)
  | .set4E => (8, 8)
  | .set4H => (8, 8)
  | .set4L => (8, 8)
  | .set4AtHl => (16, 16)
  | .set4A => (8, 8)
  | .set5B => (8, 8)
  | .set5C => (8, 8)
  | .set5D => (8, 8)
  | .set5E => (8, 8)
  | .set5H => (8, 8)
  | .set5L => (8, 8)
  | .set5AtHl => (16, 16)
  | .set5A => (8, 8)
  | .set6B => (8, 8)
  | .set6C => (8, 8)
  | .set6D => (8, 8)
  | .set6E => (8, 8)
  | .set6H => (8, 8)
  | .set6L => (8, 8)
  | .set6AtHl => (16, 16)
  | .set6A => (8, 8)
  | .set7B => (8, 8)
  | .set7C => (8, 8)
  | .set7D => (8, 8)
  | .set7E => (8, 8)
  | .set7H => (8, 8)
  | .set7L => (8, 8)
  | .set7AtHl => (16, 16)
  | .set7A => (8, 8)

end Sys2Proof
end

