-- ==== Sys2Proof/Machine/Rotate.lean ====
section
/-! DEFINITION. The rotates and shifts (43_rotate_shift_bit.md R311..R322): the shared operations, then one
meaning for each row. -/

namespace Sys2Proof.Machine

/-- RLCA, RRCA, RLA, RRA (R311..R314): Z is always cleared. -/
def rotateA (k : RotOp) (s : State) : State :=
  let (res, c) := rotate k s.a (flagC s)
  setFlags false false false c { s with a := res }

/-- A CB rotate, shift or SWAP on `r` (R310, R315..R322): Z from the result. -/
def rotateR8 (k : RotOp) (r : R8) (s : State) : State :=
  let (res, c) := rotate k (readR8 r s) (flagC s)
  setFlags (res == 0) false false c (writeR8 r res s)

/-- `RLCA` (R311). -/
def execRlca (s : State) : Result := .next (tick 4 (rotateA .rlc s))

/-- `RRCA` (R312). -/
def execRrca (s : State) : Result := .next (tick 4 (rotateA .rrc s))

/-- `RLA` (R313). -/
def execRla (s : State) : Result := .next (tick 4 (rotateA .rl s))

/-- `RRA` (R314). -/
def execRra (s : State) : Result := .next (tick 4 (rotateA .rr s))

/-- `RLC B` (R315). -/
def execRlcB (s : State) : Result := .next (tick 8 (rotateR8 .rlc .b s))

/-- `RLC C` (R315). -/
def execRlcC (s : State) : Result := .next (tick 8 (rotateR8 .rlc .c s))

/-- `RLC D` (R315). -/
def execRlcD (s : State) : Result := .next (tick 8 (rotateR8 .rlc .d s))

/-- `RLC E` (R315). -/
def execRlcE (s : State) : Result := .next (tick 8 (rotateR8 .rlc .e s))

/-- `RLC H` (R315). -/
def execRlcH (s : State) : Result := .next (tick 8 (rotateR8 .rlc .h s))

/-- `RLC L` (R315). -/
def execRlcL (s : State) : Result := .next (tick 8 (rotateR8 .rlc .l s))

/-- `RLC (HL)` (R315). -/
def execRlcAtHl (s : State) : Result := .next (tick 16 (rotateR8 .rlc .atHl s))

/-- `RLC A` (R315). -/
def execRlcA (s : State) : Result := .next (tick 8 (rotateR8 .rlc .a s))

/-- `RRC B` (R316). -/
def execRrcB (s : State) : Result := .next (tick 8 (rotateR8 .rrc .b s))

/-- `RRC C` (R316). -/
def execRrcC (s : State) : Result := .next (tick 8 (rotateR8 .rrc .c s))

/-- `RRC D` (R316). -/
def execRrcD (s : State) : Result := .next (tick 8 (rotateR8 .rrc .d s))

/-- `RRC E` (R316). -/
def execRrcE (s : State) : Result := .next (tick 8 (rotateR8 .rrc .e s))

/-- `RRC H` (R316). -/
def execRrcH (s : State) : Result := .next (tick 8 (rotateR8 .rrc .h s))

/-- `RRC L` (R316). -/
def execRrcL (s : State) : Result := .next (tick 8 (rotateR8 .rrc .l s))

/-- `RRC (HL)` (R316). -/
def execRrcAtHl (s : State) : Result := .next (tick 16 (rotateR8 .rrc .atHl s))

/-- `RRC A` (R316). -/
def execRrcA (s : State) : Result := .next (tick 8 (rotateR8 .rrc .a s))

/-- `RL B` (R317). -/
def execRlB (s : State) : Result := .next (tick 8 (rotateR8 .rl .b s))

/-- `RL C` (R317). -/
def execRlC (s : State) : Result := .next (tick 8 (rotateR8 .rl .c s))

/-- `RL D` (R317). -/
def execRlD (s : State) : Result := .next (tick 8 (rotateR8 .rl .d s))

/-- `RL E` (R317). -/
def execRlE (s : State) : Result := .next (tick 8 (rotateR8 .rl .e s))

/-- `RL H` (R317). -/
def execRlH (s : State) : Result := .next (tick 8 (rotateR8 .rl .h s))

/-- `RL L` (R317). -/
def execRlL (s : State) : Result := .next (tick 8 (rotateR8 .rl .l s))

/-- `RL (HL)` (R317). -/
def execRlAtHl (s : State) : Result := .next (tick 16 (rotateR8 .rl .atHl s))

/-- `RL A` (R317). -/
def execRlA (s : State) : Result := .next (tick 8 (rotateR8 .rl .a s))

/-- `RR B` (R318). -/
def execRrB (s : State) : Result := .next (tick 8 (rotateR8 .rr .b s))

/-- `RR C` (R318). -/
def execRrC (s : State) : Result := .next (tick 8 (rotateR8 .rr .c s))

/-- `RR D` (R318). -/
def execRrD (s : State) : Result := .next (tick 8 (rotateR8 .rr .d s))

/-- `RR E` (R318). -/
def execRrE (s : State) : Result := .next (tick 8 (rotateR8 .rr .e s))

/-- `RR H` (R318). -/
def execRrH (s : State) : Result := .next (tick 8 (rotateR8 .rr .h s))

/-- `RR L` (R318). -/
def execRrL (s : State) : Result := .next (tick 8 (rotateR8 .rr .l s))

/-- `RR (HL)` (R318). -/
def execRrAtHl (s : State) : Result := .next (tick 16 (rotateR8 .rr .atHl s))

/-- `RR A` (R318). -/
def execRrA (s : State) : Result := .next (tick 8 (rotateR8 .rr .a s))

/-- `SLA B` (R319). -/
def execSlaB (s : State) : Result := .next (tick 8 (rotateR8 .sla .b s))

/-- `SLA C` (R319). -/
def execSlaC (s : State) : Result := .next (tick 8 (rotateR8 .sla .c s))

/-- `SLA D` (R319). -/
def execSlaD (s : State) : Result := .next (tick 8 (rotateR8 .sla .d s))

/-- `SLA E` (R319). -/
def execSlaE (s : State) : Result := .next (tick 8 (rotateR8 .sla .e s))

/-- `SLA H` (R319). -/
def execSlaH (s : State) : Result := .next (tick 8 (rotateR8 .sla .h s))

/-- `SLA L` (R319). -/
def execSlaL (s : State) : Result := .next (tick 8 (rotateR8 .sla .l s))

/-- `SLA (HL)` (R319). -/
def execSlaAtHl (s : State) : Result := .next (tick 16 (rotateR8 .sla .atHl s))

/-- `SLA A` (R319). -/
def execSlaA (s : State) : Result := .next (tick 8 (rotateR8 .sla .a s))

/-- `SRA B` (R320). -/
def execSraB (s : State) : Result := .next (tick 8 (rotateR8 .sra .b s))

/-- `SRA C` (R320). -/
def execSraC (s : State) : Result := .next (tick 8 (rotateR8 .sra .c s))

/-- `SRA D` (R320). -/
def execSraD (s : State) : Result := .next (tick 8 (rotateR8 .sra .d s))

/-- `SRA E` (R320). -/
def execSraE (s : State) : Result := .next (tick 8 (rotateR8 .sra .e s))

/-- `SRA H` (R320). -/
def execSraH (s : State) : Result := .next (tick 8 (rotateR8 .sra .h s))

/-- `SRA L` (R320). -/
def execSraL (s : State) : Result := .next (tick 8 (rotateR8 .sra .l s))

/-- `SRA (HL)` (R320). -/
def execSraAtHl (s : State) : Result := .next (tick 16 (rotateR8 .sra .atHl s))

/-- `SRA A` (R320). -/
def execSraA (s : State) : Result := .next (tick 8 (rotateR8 .sra .a s))

/-- `SWAP B` (R321). -/
def execSwapB (s : State) : Result := .next (tick 8 (rotateR8 .swap .b s))

/-- `SWAP C` (R321). -/
def execSwapC (s : State) : Result := .next (tick 8 (rotateR8 .swap .c s))

/-- `SWAP D` (R321). -/
def execSwapD (s : State) : Result := .next (tick 8 (rotateR8 .swap .d s))

/-- `SWAP E` (R321). -/
def execSwapE (s : State) : Result := .next (tick 8 (rotateR8 .swap .e s))

/-- `SWAP H` (R321). -/
def execSwapH (s : State) : Result := .next (tick 8 (rotateR8 .swap .h s))

/-- `SWAP L` (R321). -/
def execSwapL (s : State) : Result := .next (tick 8 (rotateR8 .swap .l s))

/-- `SWAP (HL)` (R321). -/
def execSwapAtHl (s : State) : Result := .next (tick 16 (rotateR8 .swap .atHl s))

/-- `SWAP A` (R321). -/
def execSwapA (s : State) : Result := .next (tick 8 (rotateR8 .swap .a s))

/-- `SRL B` (R322). -/
def execSrlB (s : State) : Result := .next (tick 8 (rotateR8 .srl .b s))

/-- `SRL C` (R322). -/
def execSrlC (s : State) : Result := .next (tick 8 (rotateR8 .srl .c s))

/-- `SRL D` (R322). -/
def execSrlD (s : State) : Result := .next (tick 8 (rotateR8 .srl .d s))

/-- `SRL E` (R322). -/
def execSrlE (s : State) : Result := .next (tick 8 (rotateR8 .srl .e s))

/-- `SRL H` (R322). -/
def execSrlH (s : State) : Result := .next (tick 8 (rotateR8 .srl .h s))

/-- `SRL L` (R322). -/
def execSrlL (s : State) : Result := .next (tick 8 (rotateR8 .srl .l s))

/-- `SRL (HL)` (R322). -/
def execSrlAtHl (s : State) : Result := .next (tick 16 (rotateR8 .srl .atHl s))

/-- `SRL A` (R322). -/
def execSrlA (s : State) : Result := .next (tick 8 (rotateR8 .srl .a s))

end Sys2Proof.Machine
end

