-- ==== Sys2Proof/Machine/System.lean ====
section
/-! DEFINITION. The system instructions (45_system.md R380..R386): NOP, HALT, STOP, DI, EI, the prefix byte and
the eleven illegal opcodes. -/

namespace Sys2Proof.Machine

/-- HALT (R381): halt, or arm the halt bug when IME = 0 and an interrupt is pending. -/
def enterHalt (s : State) : State :=
  if s.ime = true ∨ pending s = 0 then { s with halted := true } else { s with haltBug := true }

/-- The T-cycles of a CB instruction (R310): register operand, or the byte at HL. -/
def cbCycles (r : R8) (register memory : Nat) : Nat := if r = .atHl then memory else register

/-- `execute CB[op]` (R385), by the fields of R169 and R310. -/
def executeCb (op : Byte) (s : State) : State :=
  let y := fieldY op
  let r := r8Of (fieldZ op)
  match fieldX op with
  | 0 => tick (cbCycles r 8 16) (rotateR8 (rotOf y) r s)
  | 1 => tick (cbCycles r 8 12) (testBit y r s)
  | 2 => tick (cbCycles r 8 16) (resetBit y r s)
  | _ => tick (cbCycles r 8 16) (setBit y r s)

/-- `op <- Fetch8(); execute CB[op]` (R385): the CB table's count is the whole count. -/
def prefixed (s : State) : State :=
  let (op, s) := fetch8 s
  executeCb op s

/-- `NOP` (R380). -/
def execNop (s : State) : Result := .next (tick 4 (s))

/-- `HALT` (R381). -/
def execHalt (s : State) : Result := .next (tick 4 (enterHalt s))

/-- `STOP n8` (R382): the second byte has been fetched and is ignored. -/
def execStopN8 (_ : Byte) (s : State) : Result := .next (tick 4 { s with stopped := true })

/-- `DI` (R383). -/
def execDi (s : State) : Result := .next (tick 4 { s with ime := false, imeScheduled := false })

/-- `EI` (R384). -/
def execEi (s : State) : Result := .next (tick 4 { s with imeScheduled := true })

/-- `PREFIX CB` (R385). -/
def execPrefixCb (s : State) : Result := .next (prefixed s)

/-- `ILLEGAL_D3` (R386). -/
def execIllegalD3 (s : State) : Result := .next (takeDecodeError 0xD3 s)

/-- `ILLEGAL_DB` (R386). -/
def execIllegalDB (s : State) : Result := .next (takeDecodeError 0xDB s)

/-- `ILLEGAL_DD` (R386). -/
def execIllegalDD (s : State) : Result := .next (takeDecodeError 0xDD s)

/-- `ILLEGAL_E3` (R386). -/
def execIllegalE3 (s : State) : Result := .next (takeDecodeError 0xE3 s)

/-- `ILLEGAL_E4` (R386). -/
def execIllegalE4 (s : State) : Result := .next (takeDecodeError 0xE4 s)

/-- `ILLEGAL_EB` (R386). -/
def execIllegalEB (s : State) : Result := .next (takeDecodeError 0xEB s)

/-- `ILLEGAL_EC` (R386). -/
def execIllegalEC (s : State) : Result := .next (takeDecodeError 0xEC s)

/-- `ILLEGAL_ED` (R386). -/
def execIllegalED (s : State) : Result := .next (takeDecodeError 0xED s)

/-- `ILLEGAL_F4` (R386). -/
def execIllegalF4 (s : State) : Result := .next (takeDecodeError 0xF4 s)

/-- `ILLEGAL_FC` (R386). -/
def execIllegalFC (s : State) : Result := .next (takeDecodeError 0xFC s)

/-- `ILLEGAL_FD` (R386). -/
def execIllegalFD (s : State) : Result := .next (takeDecodeError 0xFD s)

end Sys2Proof.Machine
end

