-- ==== Sys2Proof/Machine/Engine.lean ====
section
/-! DEFINITION. The machine around the instructions (60_exceptions.md): instruction fetch and the CPU step
(R401), the OAM-DMA step (R461), the device steps, the frame boundary and the engine step (R470). -/

namespace Sys2Proof.Machine

/-- The opcode and operand bytes of the next instruction, fetched with `Fetch8` (R36, R160, R161): the
instruction and the state after its last byte has been fetched. Operand fetches change nothing but PC
(20_memory.md R98), and every pseudocode makes them before anything else (log entry 14). -/
def fetchInstr (s : State) : Instr × State :=
  let (b0, s1) := fetch8 { s with instrAddr := s.pc }
  if opLength b0 = 1 then (decodeBytes b0 0 0, s1)
  else
    let (b1, s2) := fetch8 s1
    if opLength b0 = 2 then (decodeBytes b0 b1 0, s2)
    else
      let (b2, s3) := fetch8 s2
      (decodeBytes b0 b1 b2, s3)

/-- The interrupt check that opens a CPU step (R401): the halt release, then the dispatch. -/
def interruptCheck (s : State) : State := dispatchPending (releaseHalt { s with cycles := 0 })

/-- What closes an instruction (R401): the EI commit, unless a decode error ended the step. -/
def finishInstr (wasScheduled : Bool) (r : Result) : Result :=
  match r with
  | .next t => .next (if t.fault.isSome then t else commitEi wasScheduled t)
  | .fault e => .fault e
  | .refused e => .refused e

/-- `CpuStep()` (R401); the T-cycles it returns are the field `cycles`. -/
def cpuStep (s : State) : Result :=
  let s := interruptCheck s
  if s.halted then .next (tick 4 s)
  else finishInstr s.imeScheduled (exec (fetchInstr s).1 (fetchInstr s).2)

/-- The timer's part of an engine step (R441). -/
def stepTimer (c : Nat) (s : State) : State :=
  let (t, r) := timerStep c s.timer
  requestInterrupt r { s with timer := t }

/-- One pass of the DMA loop (R461): one byte through the bus into OAM. -/
def dmaCopy (s : State) : State :=
  let src : Word := pair s.dma.src (BitVec.ofNat 8 s.dma.index)
  let s := writeOam (0xFE00#16 ||| BitVec.ofNat 16 s.dma.index) (busRead src s) s
  let index := s.dma.index + 1
  { s with dma :=
      if index = 160 then { s.dma with active := false, index := index, acc := 0 }
      else { s.dma with index := index, acc := s.dma.acc - 4 } }

/-- The DMA loop `while dma_acc >= 4 and dma_active == 1` (R461), at most `n` passes. -/
def dmaLoop : Nat → State → State
  | 0, s => s
  | n + 1, s => if s.dma.acc ≥ 4 ∧ s.dma.active then dmaLoop n (dmaCopy s) else s

/-- The DMA engine's part of an engine step: `DmaStep(c)` (R461). The loop takes 4 from the accumulator in
each pass, so `(dma_acc + c) / 4` passes are enough. -/
def stepDma (c : Nat) (s : State) : State :=
  if s.dma.active then
    dmaLoop ((s.dma.acc + c) / 4) { s with dma := { s.dma with acc := s.dma.acc + c } }
  else s

/-- The serial unit's part of an engine step (R451, R452): a completed byte goes to the host's observer when
the observer is on (R453). -/
def stepSerial (c : Nat) (s : State) : State :=
  let (u, x) := serialStep c s.serial
  let out := match x.completed with
    | some b => if s.params.serialObserver then s.host.serialOut ++ [b] else s.host.serialOut
    | none => s.host.serialOut
  requestInterrupt x.request { s with serial := u, host := { s.host with serialOut := out } }

/-- The PPU's part of an engine step (R500). -/
def stepPpu (c : Nat) (s : State) : State := putPpu (ppuStep s.params.spriteFetchDots c s.ppu) s

/-- The devices in the order timer, DMA, serial, PPU (R423, R470). -/
def deviceSteps (c : Nat) (s : State) : State := stepPpu c (stepSerial c (stepDma c (stepTimer c s)))

/-- The host's answer at the next poll. When no answer is left, all buttons are released and no signal has
come, the defaults of 00_scope.md R8 (log entry 5). -/
def nextAnswer (s : State) : HostAnswer := s.host.polls.headD ⟨0x00, false⟩

/-- The button field of `host.poll()`; a headless poll returns the previous field (R471). -/
def polledButtons (s : State) : Byte :=
  if s.params.headless then s.joypad.pressed else (nextAnswer s).buttons

/-- The frame boundary (R470): take the frame, draw it unless headless (R471), poll the joypad (R473), read
the shutdown signal (R477). -/
def frameBoundary (s : State) : State :=
  if s.ppu.frameReady then
    let (frame, p) := s.ppu.takeFrame
    let (j, r) := joypadPoll (polledButtons s) s.joypad
    requestInterrupt r
      { s with
        ppu := p
        joypad := j
        shutdown := (nextAnswer s).shutdown
        host := { s.host with
          polls := s.host.polls.tail
          drawn := if s.params.headless then s.host.drawn else s.host.drawn ++ [frame] } }
  else s

/-- Why a state takes no engine step (R472), if it takes none. -/
def blocked (s : State) : Option Fault :=
  match s.fault with
  | some r => some (.decodeError r.opcode r.addr)
  | none => if s.stopped then some .stopped else if s.shutdown then some .shutDown else none

/-- The devices and the frame boundary after a CPU step; a decode error advances no device (R470). -/
def afterCpu (r : Result) : Result :=
  match r with
  | .next t => .next (if t.fault.isSome then t else frameBoundary (deviceSteps t.cycles t))
  | .fault e => .fault e
  | .refused e => .refused e

/-- `EngineStep()` (R470, R472). -/
def engineStep (s : State) : Result :=
  match blocked s with
  | some e => .fault e
  | none => afterCpu (cpuStep s)

/-! ### Placing an instruction where the machine fetches it -/

/-- The byte `v` stored in whatever the bus shows at address `a`: the boot ROM under the overlay, the
cartridge ROM bank selected there, VRAM, external RAM, work RAM, OAM or high RAM. An I/O register and the
unused range hold no program byte: nothing is stored there. -/
def placeByte (addr : Word) (v : Byte) (s : State) : State :=
  match region addr with
  | .rom a =>
    if a ≤ 0x00FF ∧ s.bootVisible = true then { s with bootRom := s.bootRom.map (·.set a v) }
    else { s with cart := { s.cart with rom := memWrite s.cart.rom (s.cart.romIndex a) v } }
  | .vram i => { s with ppu := { s.ppu with vram := memWrite s.ppu.vram i v } }
  | .extRam a => { s with cart := s.cart.ramWrite a v }
  | .wram i => { s with wram := memWrite s.wram i v }
  | .oam i => { s with ppu := { s.ppu with oam := memWrite s.ppu.oam i v } }
  | .hram i => { s with hram := memWrite s.hram i v }
  | .unused | .io _ | .ie => s

/-- Bytes stored from an address upwards. -/
def placeBytes : Word → List Byte → State → State
  | _, [], s => s
  | a, v :: vs, s => placeBytes (a + 1) vs (placeByte a v s)

/-- The state with nothing that keeps the next step from fetching at PC: not halted, no halt bug, no fault,
not stopped, not shut down, and no interrupt to dispatch first. -/
def readyToFetch (s : State) : State :=
  { s with
    halted := false
    haltBug := false
    fault := none
    stopped := false
    shutdown := false
    ime := if pending s = 0 then s.ime else false }

end Sys2Proof.Machine
end

