-- ==== Sys2Proof/Machine/Step.lean ====
section
/-! DEFINITION. One step of the machine, and an instruction placed where a step fetches it. -/

namespace Sys2Proof.Machine

/-- One step is one engine step (60_exceptions.md R470). -/
def step (s : State) : Host.Outcome State Fault Refusal := engineStep s

/-- The state with the instruction of a table word where the next step fetches (log entries 1 and 10). -/
def State.withFetchWord (s : State) (nbits w : Nat) : State :=
  placeBytes s.pc (tableWordBytes nbits w) (readyToFetch s)

end Sys2Proof.Machine
end

