-- ==== Sys2Proof/Machine/Launch.lean ====
section
/-! DEFINITION. The launch: header parsing and configuration errors (20_memory.md R120..R124), the reset
columns and the cold start (70_reset_and_hazards.md R600..R605), the snapshot (R606, 60_exceptions.md R476)
and the save file (20_memory.md R137). -/

namespace Sys2Proof.Machine

/-- Why a launch is refused before any state exists (R121). -/
inductive ConfigError where
  /-- `rom_image` is shorter than 0x150 bytes. -/
  | romTooShort
  /-- The type code is not in the table of R122. -/
  | unsupportedType (code : Byte)
  /-- The ROM-size code is above 0x08. -/
  | badRomSize (code : Byte)
  /-- The RAM-size code is above 0x05. -/
  | badRamSize (code : Byte)
  /-- The image length is not `nrom × 16384`. -/
  | wrongLength
  /-- The boot ROM's length is not in 1..256, the range R8 gives the parameter (log entry 13). -/
  | badBootRom
  deriving DecidableEq, Repr

/-- What RAM a cartridge type has (R122). -/
inductive RamKind where
  | absent
  | banked
  | builtIn
  deriving DecidableEq, Repr

/-- The cartridge type table (R122): family, RAM, battery. -/
def cartType (code : Byte) : Option (Family × RamKind × Bool) :=
  match code.toNat with
  | 0x00 => some (.none, .absent, false)
  | 0x01 => some (.mbc1, .absent, false)
  | 0x02 => some (.mbc1, .banked, false)
  | 0x03 => some (.mbc1, .banked, true)
  | 0x05 => some (.mbc2, .builtIn, false)
  | 0x06 => some (.mbc2, .builtIn, true)
  | 0x08 => some (.none, .banked, false)
  | 0x09 => some (.none, .banked, true)
  | 0x0F => some (.mbc3, .absent, true)
  | 0x10 => some (.mbc3, .banked, true)
  | 0x11 => some (.mbc3, .absent, false)
  | 0x12 => some (.mbc3, .banked, false)
  | 0x13 => some (.mbc3, .banked, true)
  | 0x19 => some (.mbc5, .absent, false)
  | 0x1A => some (.mbc5, .banked, false)
  | 0x1B => some (.mbc5, .banked, true)
  | 0x1C => some (.mbc5, .absent, false)
  | 0x1D => some (.mbc5, .banked, false)
  | 0x1E => some (.mbc5, .banked, true)
  | _ => none

/-- The ROM bank count of a size code: `2^(c+1)` for c in 0x00..0x08 (R123). -/
def romBanks (code : Byte) : Option Nat :=
  if code.toNat ≤ 0x08 then some (2 ^ (code.toNat + 1)) else none

/-- The RAM bank count of a size code (R124). -/
def ramBanks (code : Byte) : Option Nat :=
  match code.toNat with
  | 0x00 => some 0
  | 0x01 => some 1
  | 0x02 => some 1
  | 0x03 => some 4
  | 0x04 => some 16
  | 0x05 => some 8
  | _ => none

/-- What the header says (R120). -/
structure Header where
  family  : Family
  battery : Bool
  nrom    : Nat
  nram    : Nat
  deriving DecidableEq, Repr

/-- The header checks of R121, in its order; a type without banked RAM forces `nram` to 0 (R124). -/
def parseHeader (length : Nat) (typeCode romCode ramCode : Byte) : Except ConfigError Header :=
  if length < 0x150 then .error .romTooShort
  else match cartType typeCode with
    | none => .error (.unsupportedType typeCode)
    | some (family, kind, battery) =>
      match romBanks romCode with
      | none => .error (.badRomSize romCode)
      | some nrom =>
        match ramBanks ramCode with
        | none => .error (.badRamSize ramCode)
        | some nram =>
          if length ≠ nrom * 0x4000 then .error .wrongLength
          else .ok ⟨family, battery, nrom, if kind = .banked then nram else 0⟩

/-- The cartridge of an image (R120, R137): `ext` is the save file's bytes, which only a battery cartridge
has; without one external RAM is all 0x00. An MBC2 cell takes the low nibble (R135, log entry 17).
DESIGN CHOICE: a file shorter than the RAM leaves the missing bytes 0x00, and a longer one is cut (log
entry 17). -/
def buildCart (image ext : List Byte) : Except ConfigError Cartridge :=
  match parseHeader image.length (image.getD 0x147 0) (image.getD 0x148 0) (image.getD 0x149 0) with
  | .error e => .error e
  | .ok hd =>
    let ext := if hd.battery then ext else []
    .ok { Cartridge.blank with
      family := hd.family
      battery := hd.battery
      nrom := hd.nrom
      rom := memOfList 0 image
      nram := hd.nram
      ram := memOfList 0 (ext.take (hd.nram * 0x2000))
      mbc2Ram := if hd.family = .mbc2 then memOfList 0 ((ext.take 512).map (·.extractLsb' 0 4)) else [] }

/-- The launch parameter `ram_init` (R8, R45, R60): the bytes of each array, from its first on. DESIGN CHOICE: a
list shorter than its array leaves the rest 0x00, and a longer one is cut (log entry 4). -/
structure RamInit where
  wram : List Byte
  hram : List Byte
  vram : List Byte
  oam  : List Byte
  deriving DecidableEq, Repr

/-- A save-state: exactly the fields of R476. -/
structure Snapshot where
  a      : Byte
  f      : Byte
  b      : Byte
  c      : Byte
  d      : Byte
  e      : Byte
  h      : Byte
  l      : Byte
  sp     : Word
  pc     : Word
  ime    : Bool
  ifReg  : BitVec 5
  ieReg  : BitVec 5
  halted : Bool
  wram   : Memory
  hram   : Memory
  ppu    : Ppu
  timer  : Timer
  deriving DecidableEq, Repr

/-- The snapshot of a state (R476). -/
def takeSnapshot (s : State) : Snapshot where
  a := s.a
  f := s.f
  b := s.b
  c := s.c
  d := s.d
  e := s.e
  h := s.h
  l := s.l
  sp := s.sp
  pc := s.pc
  ime := s.ime
  ifReg := s.ifReg
  ieReg := s.ieReg
  halted := s.halted
  wram := s.wram
  hram := s.hram
  ppu := s.ppu
  timer := s.timer

/-- A snapshot's fields over a state; every other field keeps its value (R606). The write of F is masked (R33). -/
def restoreSnapshot (x : Snapshot) (s : State) : State :=
  { s with
    a := x.a, f := x.f &&& 0xF0#8, b := x.b, c := x.c, d := x.d, e := x.e, h := x.h, l := x.l
    sp := x.sp, pc := x.pc, ime := x.ime, ifReg := x.ifReg, ieReg := x.ieReg, halted := x.halted
    wram := x.wram, hram := x.hram, ppu := x.ppu, timer := x.timer }

/-- The default `cold_start_table` (R604). -/
def defaultColdStart : List (Word × Byte) :=
  [(0xFF10, 0x80), (0xFF11, 0xBF), (0xFF12, 0xF3), (0xFF14, 0xBF), (0xFF16, 0x3F), (0xFF17, 0x00),
   (0xFF19, 0xBF), (0xFF1A, 0x7F), (0xFF1B, 0xFF), (0xFF1C, 0x9F), (0xFF1E, 0xBF)] ++
  [(0xFF20, 0xFF), (0xFF21, 0x00), (0xFF22, 0x00), (0xFF23, 0xBF), (0xFF24, 0x77), (0xFF25, 0xF3),
   (0xFF26, 0xF1), (0xFF07, 0xF8), (0xFF40, 0x91), (0xFF41, 0x85), (0xFF47, 0xFC)]

/-- The cold-start writes, made through the bus in the table's order (R603). DESIGN CHOICE: the table may name any
bus address, and each write has its usual effect (log entry 21). -/
def coldStart (table : List (Word × Byte)) (s : State) : State :=
  table.foldl (fun s w => busWrite w.1 w.2 s) s

/-- The launch parameters (R8). `polls` holds `buttons(k)` and the shutdown signal for k = 0, 1, …. Which addresses
`coldStartTable` may name is the model's choice: any (DESIGN CHOICE, log entry 21). -/
structure LaunchParams where
  bootRom        : Option (List Byte)
  romImage       : List Byte
  ramInit        : RamInit
  extRamInit     : List Byte
  coldStartTable : List (Word × Byte)
  snapshot       : Option Snapshot
  polls          : List HostAnswer
  params         : Params
  deriving DecidableEq, Repr

/-- The launch parameters with every default of R8 but the image. -/
def LaunchParams.ofImage (image : List Byte) : LaunchParams :=
  ⟨none, image, ⟨[], [], [], []⟩, [], defaultColdStart, none, [], Params.default⟩

/-- `ram_init`, the cartridge, the host's answers and the running parameters put into a reset column. -/
def loadParams (p : LaunchParams) (k : Cartridge) (s : State) : State :=
  { s with
    wram := memOfList 0 (p.ramInit.wram.take 0x2000)
    hram := memOfList 0 (p.ramInit.hram.take 0x7F)
    ppu := { s.ppu with
      vram := memOfList 0 (p.ramInit.vram.take 0x2000)
      oam := memOfList 0 (p.ramInit.oam.take 0xA0) }
    cart := k
    params := p.params
    host := ⟨p.polls, [], []⟩ }

/-- The state of R601's column for the launch, after the cold-start writes of a cold launch (R600 steps 2
and 3, R603, R605). -/
def launchColumn (p : LaunchParams) (k : Cartridge) : State :=
  match p.bootRom with
  | some rom => { loadParams p k State.bootColumn with bootRom := some rom }
  | none => coldStart p.coldStartTable (loadParams p k State.coldColumn)

/-- The boot ROM parameter is absent or has 1..256 bytes (R8, R46). -/
def bootRomOk (p : LaunchParams) : Bool :=
  match p.bootRom with
  | some rom => decide (1 ≤ rom.length ∧ rom.length ≤ 256)
  | none => true

/-- The launch (R600): a refused configuration, or the initial state. -/
def launch (p : LaunchParams) : Except ConfigError State :=
  match buildCart p.romImage p.extRamInit with
  | .error e => .error e
  | .ok k =>
    if bootRomOk p = false then .error .badBootRom
    else
      let s := launchColumn p k
      .ok (match p.snapshot with
        | some x => restoreSnapshot x s
        | none => s)

/-- The save file at shutdown (R137, R477), for a battery cartridge: the bytes of every RAM bank in order; for
MBC2, whose RAM has no banks, its 512 cells, a byte each (log entry 17). -/
def saveFile (s : State) : Option (List Byte) :=
  if s.cart.battery = false then none
  else if s.cart.family = .mbc2 then
    some ((List.range 512).map fun k => (memRead s.cart.mbc2Ram k).zeroExtend 8)
  else some ((List.range (s.cart.nram * 0x2000)).map (memRead s.cart.ram))

end Sys2Proof.Machine
end

