-- ==== Sys2Proof/Safety.lean ====
section
/-! DEFINITION. What counts as a safe run: when a run has ended (60_exceptions.md R475), the launch premise
R608 calls `LP_clean_entry`, and the invariants the spec's rules give the state. -/

namespace Sys2Proof.Machine

/-- A run has failed: the fault record is set (R472, R475). -/
def runFailed (s : State) : Bool := s.fault.isSome

/-- The end of a run (R475): a fault, STOP, the shutdown signal, or PC at `end_pc` outside HALT. -/
def runEnded (s : State) : Bool :=
  s.fault.isSome || s.stopped || s.shutdown || (s.params.endPc == some s.pc && !s.halted)

/-- `LP_clean_entry` (R608). -/
def cleanEntry (s : State) : Bool :=
  !s.halted && !s.haltBug && !s.stopped && !s.imeScheduled && !s.ime && !s.shutdown && !s.dma.active &&
    s.serial.serialAcc == 0 && s.timer.timaAcc == 0 && !s.ppu.frameReady

/-- The low nibble of F is zero (R33). -/
abbrev FlagsClean (s : State) : Prop := s.f &&& 0x0F#8 = 0#8

/-- Every memory array is in canonical form and holds only cells of its size (R45, R57, R60, R61, R69). -/
abbrev MemoriesCanonical (s : State) : Prop :=
  Memory.wf s.wram ∧ Memory.wf s.hram ∧ Memory.wf s.apu ∧ Memory.wf s.ppu.vram ∧ Memory.wf s.ppu.oam ∧
  Memory.wf s.ppu.fbCur ∧ Memory.wf s.ppu.fbDone ∧ Memory.wf s.cart.rom ∧ Memory.wf s.cart.ram ∧
  Memory.wf s.cart.mbc2Ram ∧ Memory.wf s.cart.rtc

/-- Every memory array holds only cells of its size (R45, R57, R60, R69). The framebuffers' bound needs the
PPU's ranges and stands in `PpuInRange`. -/
abbrev MemoriesInRange (s : State) : Prop :=
  Memory.within 0x2000 s.wram ∧ Memory.within 0x7F s.hram ∧ Memory.within 0x30 s.apu ∧
  Memory.within 0x2000 s.ppu.vram ∧ Memory.within 0xA0 s.ppu.oam ∧
  Memory.within (s.cart.nrom * 0x4000) s.cart.rom ∧ Memory.within (s.cart.nram * 0x2000) s.cart.ram ∧
  Memory.within 512 s.cart.mbc2Ram ∧ Memory.within 5 s.cart.rtc

/-- The accumulators and the DMA index stay in the ranges of R47, R52 and R58, and an active transfer has a
byte left to copy (R461). -/
abbrev DevicesInRange (s : State) : Prop :=
  s.timer.timaAcc < 1024 ∧ s.serial.serialAcc < 4096 ∧ s.dma.acc < 4 ∧ s.dma.index ≤ 160 ∧
  (s.dma.active = true → s.dma.index < 160)

/-- The selected ROM bank is never 0 (R69, R129). -/
abbrev RomBankNonzero (s : State) : Prop := s.cart.romBank ≠ 0x00#8

/-- The PPU's internal state stays in the ranges of R61, R502 and R521. -/
abbrev PpuInRange (p : Ppu) : Prop :=
  p.sprites.length ≤ 10 ∧ p.nextSprite ≤ p.sprites.length ∧ p.bgFifo.length ≤ 8 ∧
  p.objFifo.length ≤ 8 ∧ p.fetchRow < 8 ∧ p.pushedX ≤ 160 ∧ (p.mode = .draw → p.pushedX < 160) ∧
  p.discard < 8 ∧ p.warmup ≤ 6 ∧ Memory.within (144 * 160) p.fbCur ∧ Memory.within (144 * 160) p.fbDone

/-- While the LCD is off the mode is HBLANK (R501, R510). -/
abbrev LcdOffInHblank (p : Ppu) : Prop := p.lcdOn = false → p.mode = .hblank

/-- STAT bit 2 reports whether LY equals LYC (R61, R513). -/
abbrev CoincidenceExact (p : Ppu) : Prop := p.coincidence = (p.ly == p.lyc)

/-! ### What an instruction stores, and what a store can reach -/

/-- The two stack addresses a push writes (R102). -/
def pushedAt (s : State) : List Word := [s.sp - 1, s.sp - 2]

/-- The addresses an instruction stores to from state `s`, in order. A form that is not listed stores
nothing. -/
def storedAt (i : Instr) (s : State) : List Word :=
  match i with
  | .ldAtHlB | .ldAtHlC | .ldAtHlD | .ldAtHlE | .ldAtHlH | .ldAtHlL | .ldAtHlA | .ldAtHlN8 _ | .ldAtHliA
    | .ldAtHldA | .incAtHl | .decAtHl | .rlcAtHl | .rrcAtHl | .rlAtHl | .rrAtHl | .slaAtHl | .sraAtHl
    | .swapAtHl | .srlAtHl | .res0AtHl | .res1AtHl | .res2AtHl | .res3AtHl | .res4AtHl | .res5AtHl
    | .res6AtHl | .res7AtHl | .set0AtHl | .set1AtHl | .set2AtHl | .set3AtHl | .set4AtHl | .set5AtHl
    | .set6AtHl | .set7AtHl => [getHl s]
  | .ldAtBcA => [getBc s]
  | .ldAtDeA => [getDe s]
  | .ldAtA16A a => [a]
  | .ldhAtA8A a => [highPage a]
  | .ldhAtCA => [highPage s.c]
  | .ldAtA16Sp a => [a, a + 1]
  | .pushBc | .pushDe | .pushHl | .pushAf | .callA16 _ | .rst00 | .rst08 | .rst10 | .rst18 | .rst20
    | .rst28 | .rst30 | .rst38 => pushedAt s
  | .callNzA16 _ => if holds .nz s then pushedAt s else []
  | .callZA16 _ => if holds .z s then pushedAt s else []
  | .callNcA16 _ => if holds .nc s then pushedAt s else []
  | .callCA16 _ => if holds .c s then pushedAt s else []
  | .prefixCb => if fieldZ (busRead s.pc s) = 6 ∧ fieldX (busRead s.pc s) ≠ 1 then [getHl s] else []
  | _ => []

/-- The I/O registers a store to `r` can change besides `r`: LCDC's transitions set LY and STAT (R510), and
STAT, LY and LYC writes may request an interrupt and set the coincidence bit (R513, R514). -/
def ioReach (r q : IoReg) : Bool :=
  r == q || [(.lcdc, .stat), (.lcdc, .ly), (.stat, .ifFlags), (.ly, .stat), (.ly, .ifFlags),
    (.lyc, .stat), (.lyc, .ifFlags)].contains (r, q)

/-- Whether a store at `x` can change what `y` reads as: `y` shows the same cell (R85, R135), the same
register or one it reaches, or a bank or a window the register at `x` opens or closes (R83, R87, R89,
R127). -/
def reaches (s : State) (x y : Word) : Bool :=
  match region x, region y with
  | .rom _, .rom a => decide (0x4000 ≤ a)
  | .rom _, .extRam _ => true
  | .vram i, .vram j => i == j
  | .extRam a, .extRam b =>
    if s.cart.family = .mbc2 then mbc2Cell a == mbc2Cell b else s.cart.rtcMapped.isSome || a == b
  | .wram i, .wram j => i == j
  | .oam i, .oam j => i == j
  | .hram i, .hram j => i == j
  | .ie, .ie => true
  | .io r, .io q => ioReach r q
  | .io r, .vram _ => r == .lcdc
  | .io r, .oam _ => r == .lcdc || r == .dma
  | .io r, .rom a => r == .bootOff && decide (a ≤ 0x00FF)
  | _, _ => false

/-! ### What claims about instructions say -/

/-- The state after `Push16(v)` (R102): the high byte at SP - 1, then the low byte at SP - 2, and SP down by
two. -/
def afterPush (v : Word) (s : State) : State :=
  { busWrite (s.sp - 2) (BitVec.ofNat 8 (v.toNat % 256))
      (busWrite (s.sp - 1) (BitVec.ofNat 8 (v.toNat / 256)) s) with sp := s.sp - 2 }

/-- F holds exactly these flags, and its low nibble is zero (R33). -/
abbrev FlagsAre (t : State) (z n h c : Bool) : Prop :=
  flagZ t = z ∧ flagN t = n ∧ flagH t = h ∧ flagC t = c ∧ t.f &&& 0x0F#8 = 0#8

/-- The outcome adds `v` and `cin` to A in `n` T-cycles: A and F change and nothing else (R251..R253). -/
def Adds (v : Byte) (cin n : Nat) (s : State) (r : Result) : Prop :=
  ∃ t, r = .next t ∧ t = { s with a := t.a, f := t.f, cycles := s.cycles + n } ∧
    t.a.toNat = (s.a.toNat + v.toNat + cin) % 256 ∧
    FlagsAre t (t.a == 0) false (decide (s.a.toNat % 16 + v.toNat % 16 + cin > 15))
      (decide (s.a.toNat + v.toNat + cin > 255))

/-- The outcome takes `v` and `cin` from A (R251, R254, R255); with `keep`, A keeps its value and only the
flags tell (R259). -/
def Subtracts (keep : Bool) (v : Byte) (cin n : Nat) (s : State) (r : Result) : Prop :=
  ∃ t, r = .next t ∧ t = { s with a := t.a, f := t.f, cycles := s.cycles + n } ∧
    ∃ res : Byte, (res.toNat : Int) = ((s.a.toNat : Int) - v.toNat - cin) % 256 ∧
      t.a = (if keep then s.a else res) ∧
      FlagsAre t (res == 0) true (decide (s.a.toNat % 16 < v.toNat % 16 + cin))
        (decide (s.a.toNat < v.toNat + cin))

/-- The outcome puts into A the byte whose bit `j` is `f (A[j]) (v[j])`, with H as given and N and C clear
(R256..R258). -/
def Combines (f : Bool → Bool → Bool) (half : Bool) (v : Byte) (n : Nat) (s : State) (r : Result) : Prop :=
  ∃ t, r = .next t ∧ t = { s with a := t.a, f := t.f, cycles := s.cycles + n } ∧
    (∀ j, j < 8 → bit t.a j = f (bit s.a j) (bit v j)) ∧ FlagsAre t (t.a == 0) false half false

/-- Bit `j` of the result of a rotate, shift or SWAP of `v` with carry `c` (R311..R322). -/
def rotatedBit (k : RotOp) (v : Byte) (c : Bool) (j : Nat) : Bool :=
  match k with
  | .rlc => bit v ((j + 7) % 8)
  | .rrc => bit v ((j + 1) % 8)
  | .rl => if j = 0 then c else bit v (j - 1)
  | .rr => if j = 7 then c else bit v (j + 1)
  | .sla => if j = 0 then false else bit v (j - 1)
  | .sra => bit v (min (j + 1) 7)
  | .swap => bit v ((j + 4) % 8)
  | .srl => if j = 7 then false else bit v (j + 1)

/-- The bit a rotate or shift sends to C: old bit 7 to the left, old bit 0 to the right, none for SWAP. -/
def rotatedOut (k : RotOp) (v : Byte) : Bool :=
  match k with
  | .rlc | .rl | .sla => bit v 7
  | .rrc | .rr | .sra | .srl => bit v 0
  | .swap => false

/-- The two-digit decimal number `x` in binary-coded decimal. -/
def bcd (x : Nat) : Byte := BitVec.ofNat 8 (x / 10 * 16 + x % 10)

/-- The bytes at PC, as `s` shows them, are instruction `i`. -/
def Fetches (s : State) (i : Instr) : Prop :=
  ∃ rest, decode [busRead s.pc s, busRead (s.pc + 1) s, busRead (s.pc + 2) s] = .ok (i, rest)

/-- The next step runs the instruction at PC: it is not blocked, not halted, dispatches nothing and fetches
without the halt bug (R401, R472). -/
abbrev RunsNext (s : State) : Prop :=
  blocked s = none ∧ s.halted = false ∧ (s.ime = false ∨ pending s = 0) ∧ s.haltBug = false

/-- Plain RAM: work RAM, its echo, or high RAM (R84, R85, R91). -/
abbrev plainRam (x : Word) : Prop :=
  (0xC000 ≤ x.toNat ∧ x.toNat ≤ 0xFDFF) ∨ (0xFF80 ≤ x.toNat ∧ x.toNat ≤ 0xFFFE)

/-- The bit `i` of `pending` is the lowest one set (R421, R423). -/
abbrev FirstPending (i : Nat) (s : State) : Prop :=
  i < 5 ∧ (pending s).getLsbD i = true ∧ ∀ j, j < i → (pending s).getLsbD j = false

end Sys2Proof.Machine
end

