-- ==== Sys2Proof/Certificates/Slice0/Obligations.lean ====
section
/-! DEFINITION. The statements for the provers, in the order of OBLIGATIONS.json. A docstring names the rules
of spec/ a statement formalises. Where a rule carries one of the spec's own marks ([decision], [derived],
[from general knowledge]), the docstring says so and the statement's basis is 'derived'. -/

open Sys2Proof Sys2Proof.Machine

/-! ### Encoding -/

/-- No bit of an encoding is dropped: the bytes of every whole instruction, with any bytes after them, decode
to it (R160..R174; the grids are the spec's [from general knowledge, not in source]). -/
def Obligations.DecodeOfEncode : Prop :=
  ∀ (i : Instr) (rest : List Byte), i.wellFormed = true → decode (encode i ++ rest) = .ok (i, rest)

/-- Each byte string has one meaning: what the decoder takes from it are the bytes of the instruction it
answers (R160..R174). -/
def Obligations.EncodeOfDecode : Prop :=
  ∀ (bytes rest : List Byte) (i : Instr), decode bytes = .ok (i, rest) → encode i ++ rest = bytes

/-- Words written out from the encodings of R162..R169, one or more of each family. -/
def Obligations.DecodedWords : Prop :=
  decodeBytes 0b01001000 0 0 = .ldCB ∧ decodeBytes 0b01111110 0 0 = .ldAAtHl ∧
  decodeBytes 0b00111110 0x3A 0 = .ldAN8 0x3A ∧ decodeBytes 0b00110001 0xFE 0xFF = .ldSpN16 0xFFFE ∧
  decodeBytes 0b00001000 0x00 0xC0 = .ldAtA16Sp 0xC000 ∧ decodeBytes 0b11110101 0 0 = .pushAf ∧
  decodeBytes 0b10010110 0 0 = .subAAtHl ∧ decodeBytes 0b11111110 0x40 0 = .cpAN8 0x40 ∧
  decodeBytes 0b00111001 0 0 = .addHlSp ∧ decodeBytes 0b11001011 0b00010001 0 = .rlC ∧
  decodeBytes 0b11001011 0b01111110 0 = .bit7AtHl ∧ decodeBytes 0b11000010 0x50 0x01 = .jpNzA16 0x0150 ∧
  decodeBytes 0b00011000 0xFE 0 = .jrE8 0xFE ∧ decodeBytes 0b11101111 0 0 = .rst28 ∧
  decodeBytes 0b01110110 0 0 = .halt ∧ decodeBytes 0b11011101 0 0 = .illegalDD

/-- The decode error (R172, R386; which eleven opcodes are illegal is [decision D9]). Exactly these are illegal;
executing one records the opcode and its address and nothing else, at no cycles; and a step that runs one
leaves PC past the opcode byte and advances no device. -/
def Obligations.DecodeErrorEndsRun : Prop :=
  (∀ b0 b1 b2 : Byte, (decodeBytes b0 b1 b2).illegalOpcode =
    if b0.toNat ∈ [0xD3, 0xDB, 0xDD, 0xE3, 0xE4, 0xEB, 0xEC, 0xED, 0xF4, 0xFC, 0xFD] then some b0
    else none) ∧
  ∀ (s : State) (i : Instr) (op : Byte), i.illegalOpcode = some op →
    exec i s = .next { s with fault := some ⟨op, s.instrAddr⟩, cycles := 0 } ∧
    (RunsNext s → Fetches s i →
      step s = .next { s with fault := some ⟨op, s.pc⟩, instrAddr := s.pc, pc := s.pc + 1, cycles := 0 })

/-! ### The step -/

/-- A step whose fetch is not under the halt bug runs the instruction the bytes at PC decode to: PC moves past
all its bytes, it executes, the EI commit closes it, and the devices follow (R36, R401, R470). `u` is the
state after the interrupt check that opens the step. -/
def Obligations.StepRunsDecodedInstruction : Prop :=
  ∀ (s u : State) (i : Instr), blocked s = none → interruptCheck s = u → u.halted = false →
    u.haltBug = false → Fetches u i →
    step s = afterCpu (finishInstr u.imeScheduled
      (exec i { u with instrAddr := u.pc, pc := u.pc + BitVec.ofNat 16 (encode i).length }))

/-- Under the halt bug the opcode fetch does not advance PC: the byte at PC is read twice, and the bug is
spent (R36, R40). -/
def Obligations.HaltBugRereadsOpcode : Prop :=
  ∀ (s u : State) (i : Instr) (rest : List Byte), blocked s = none → interruptCheck s = u →
    u.halted = false → u.haltBug = true →
    decode [busRead u.pc u, busRead u.pc u, busRead (u.pc + 1) u] = .ok (i, rest) →
    step s = afterCpu (finishInstr u.imeScheduled
      (exec i { u with instrAddr := u.pc, haltBug := false,
                       pc := u.pc + BitVec.ofNat 16 ((encode i).length - 1) }))

/-- What opens a step (R401, R402): nothing is pending, or HALT is released without a dispatch, or it is
released and the interrupt is dispatched. -/
def Obligations.InterruptCheckOpensStep : Prop :=
  ∀ s : State,
    (pending s = 0 → interruptCheck s = { s with cycles := 0 }) ∧
    (pending s ≠ 0 → s.ime = false → interruptCheck s = { s with halted := false, cycles := 0 }) ∧
    (pending s ≠ 0 → s.ime = true →
      interruptCheck s = takeInterrupt (pending s) { s with halted := false, cycles := 0 })

/-- Taking the interrupt `i` of highest priority (R421, R423): its IF bit is cleared, PC is pushed high byte
first, PC goes to 0x0040 + 8 * i, IME is cleared, 20 T-cycles pass, and no other register changes. That
`ime_scheduled` is cleared as well is [decision D6]. -/
def Obligations.InterruptDispatch : Prop :=
  ∀ (s : State) (i : Nat), FirstPending i s →
    takeInterrupt (pending s) s =
      { afterPush s.pc { s with ifReg := s.ifReg &&& ~~~(1#5 <<< i) } with
        ime := false, imeScheduled := false, pc := BitVec.ofNat 16 (0x0040 + 8 * i)
        cycles := s.cycles + 20 }

/-- The halted step (R402, the 4 T-cycles are [decision D5]): with nothing pending the CPU fetches nothing and
changes none of its state, and the devices advance by 4 T-cycles. -/
def Obligations.HaltedStepAdvancesDevices : Prop :=
  ∀ s : State, blocked s = none → s.halted = true → pending s = 0 →
    ∃ t, step s = .next t ∧ t = frameBoundary (deviceSteps 4 { s with cycles := 4 }) ∧
      t = { t with a := s.a, f := s.f, b := s.b, c := s.c, d := s.d, e := s.e, h := s.h, l := s.l, sp := s.sp,
                   pc := s.pc, ime := s.ime, imeScheduled := s.imeScheduled, halted := true,
                   haltBug := s.haltBug, stopped := false, fault := none, ieReg := s.ieReg } ∧
      t.timer.divCounter = s.timer.divCounter + 4

/-- A faulted, stopped or shut-down state takes no step, and every other state takes one (R472; which of them
are final is [decision D42]). -/
def Obligations.BlockedStatesTakeNoStep : Prop :=
  ∀ s : State,
    (s.fault.isSome = true ∨ s.stopped = true ∨ s.shutdown = true → ∀ t, step s ≠ .next t) ∧
    (s.fault = none → s.stopped = false → s.shutdown = false → ∃ t, step s = .next t)

/-- The EI commit (R404 [decision D3]): the instruction after EI ends with IME = 1, unless it is DI; EI itself
leaves IME as it was and schedules the commit. -/
def Obligations.EiCommitsAfterNextInstruction : Prop :=
  ∀ (s : State) (i : Instr), RunsNext s → Fetches s i → i.illegalOpcode = none →
    (s.imeScheduled = true → i ≠ .di → ∃ t, step s = .next t ∧ t.ime = true ∧ t.imeScheduled = false) ∧
    (i = .di → ∃ t, step s = .next t ∧ t.ime = false ∧ t.imeScheduled = false) ∧
    (s.imeScheduled = false → i = .ei →
      ∃ t, step s = .next t ∧ t.ime = s.ime ∧ t.imeScheduled = true) ∧
    (s.imeScheduled = false → i ≠ .ei → i ≠ .di → i ≠ .reti →
      ∃ t, step s = .next t ∧ t.ime = s.ime ∧ t.imeScheduled = false)

/-- Only DI, EI and RETI write IME or its schedule, and only an instruction the rules name writes the latches
`halted`, `halt_bug` and `stopped` (R405, R381, R382). -/
def Obligations.LatchWriters : Prop :=
  ∀ (i : Instr) (s t : State), i.wellFormed = true → exec i s = .next t →
    (i ≠ .di → i ≠ .ei → i ≠ .reti → t.ime = s.ime ∧ t.imeScheduled = s.imeScheduled) ∧
    (i ≠ .halt → t.halted = s.halted ∧ t.haltBug = s.haltBug) ∧
    ((∀ n, i ≠ .stopN8 n) → t.stopped = s.stopped)

/-! ### Loads and the stack -/

/-- R200's operand access and `LD r,r'`, `LD r,(HL)`, `LD r,n8` (R202..R204; the semantics are the spec's [from
general knowledge]): a register is itself, (HL) is the bus at the address in HL; the destination takes the
value, every other register, the flags and all of memory stay. -/
def Obligations.LoadRegister : Prop :=
  ∀ (dst r : R8) (n : Byte) (s : State),
    (readR8 .b s = s.b ∧ readR8 .c s = s.c ∧ readR8 .d s = s.d ∧ readR8 .e s = s.e ∧
      readR8 .h s = s.h ∧ readR8 .l s = s.l ∧ readR8 .a s = s.a) ∧
    (readR8 .atHl s = busRead (getHl s) s ∧ writeR8 .atHl n s = busWrite (getHl s) n s) ∧
    (dst ≠ .atHl → readR8 dst (writeR8 dst n s) = n ∧
      (∀ q, q ≠ .atHl → q ≠ dst → readR8 q (writeR8 dst n s) = readR8 q s) ∧
      (∃ t, t = writeR8 dst n s ∧
        t = { s with a := t.a, b := t.b, c := t.c, d := t.d, e := t.e, h := t.h, l := t.l }) ∧
      exec (.mkLd dst r) s =
        .next { writeR8 dst (readR8 r s) s with cycles := s.cycles + if r = .atHl then 8 else 4 } ∧
      exec (.mkLdN dst n) s = .next { writeR8 dst n s with cycles := s.cycles + 8 })

/-- `LD (HL),r` and `LD (HL),n8` (R205, R206): one byte goes to the address in HL through the bus, and
nothing else changes. -/
def Obligations.StoreAtHl : Prop :=
  ∀ (r : R8) (n : Byte) (s : State),
    (r ≠ .atHl → exec (.mkLd .atHl r) s =
      .next { busWrite (getHl s) (readR8 r s) s with cycles := s.cycles + 8 }) ∧
    exec (.mkLdN .atHl n) s = .next { busWrite (getHl s) n s with cycles := s.cycles + 12 }

/-- The loads of A from BC, DE, HL with a step, an absolute address and the high page (R207, R208, R211, R212,
R215, R217, R219; the semantics are the spec's [from general knowledge]). -/
def Obligations.LoadAccumulator : Prop :=
  ∀ (n : Byte) (a : Word) (s : State),
    exec .ldAAtBc s = .next { s with a := busRead (getBc s) s, cycles := s.cycles + 8 } ∧
    exec .ldAAtDe s = .next { s with a := busRead (getDe s) s, cycles := s.cycles + 8 } ∧
    (∃ t, exec .ldAAtHli s = .next t ∧ (getHl t).toNat = ((getHl s).toNat + 1) % 65536 ∧
      t = { s with a := busRead (getHl s) s, h := t.h, l := t.l, cycles := s.cycles + 8 }) ∧
    (∃ t, exec .ldAAtHld s = .next t ∧ (getHl t).toNat = ((getHl s).toNat + 65535) % 65536 ∧
      t = { s with a := busRead (getHl s) s, h := t.h, l := t.l, cycles := s.cycles + 8 }) ∧
    exec (.ldAAtA16 a) s = .next { s with a := busRead a s, cycles := s.cycles + 16 } ∧
    exec (.ldhAAtA8 n) s =
      .next { s with a := busRead (BitVec.ofNat 16 (0xFF00 + n.toNat)) s, cycles := s.cycles + 12 } ∧
    exec .ldhAAtC s =
      .next { s with a := busRead (BitVec.ofNat 16 (0xFF00 + s.c.toNat)) s, cycles := s.cycles + 8 }

/-- The stores of A at BC, DE, HL with a step, an absolute address and the high page, and of SP, low byte first
(R209, R210, R213, R214, R216, R218, R220, R222; the semantics are the spec's [from general knowledge]). -/
def Obligations.StoreAccumulatorAndSp : Prop :=
  ∀ (n : Byte) (a : Word) (s : State),
    exec .ldAtBcA s = .next { busWrite (getBc s) s.a s with cycles := s.cycles + 8 } ∧
    exec .ldAtDeA s = .next { busWrite (getDe s) s.a s with cycles := s.cycles + 8 } ∧
    (∃ t, exec .ldAtHliA s = .next t ∧ (getHl t).toNat = ((getHl s).toNat + 1) % 65536 ∧
      t = { busWrite (getHl s) s.a s with h := t.h, l := t.l, cycles := s.cycles + 8 }) ∧
    (∃ t, exec .ldAtHldA s = .next t ∧ (getHl t).toNat = ((getHl s).toNat + 65535) % 65536 ∧
      t = { busWrite (getHl s) s.a s with h := t.h, l := t.l, cycles := s.cycles + 8 }) ∧
    exec (.ldAtA16A a) s = .next { busWrite a s.a s with cycles := s.cycles + 16 } ∧
    exec (.ldhAtA8A n) s =
      .next { busWrite (BitVec.ofNat 16 (0xFF00 + n.toNat)) s.a s with cycles := s.cycles + 12 } ∧
    exec .ldhAtCA s =
      .next { busWrite (BitVec.ofNat 16 (0xFF00 + s.c.toNat)) s.a s with cycles := s.cycles + 8 } ∧
    exec (.ldAtA16Sp a) s =
      .next { busWrite (a + 1) (BitVec.ofNat 8 (s.sp.toNat / 256))
        (busWrite a (BitVec.ofNat 8 (s.sp.toNat % 256)) s) with cycles := s.cycles + 20 }

/-- The 16-bit loads and steps `LD rr,n16`, `LD SP,HL`, `INC rr`, `DEC rr` (R221, R223, R291, R292, with R32's
pairs `X * 256 + Y`; that the steps write no flag is the spec's [from general knowledge]). -/
def Obligations.PairLoadsAndSteps : Prop :=
  ∀ (rr : RR) (n : Word) (s : State),
    ((readRr .bc s).toNat = s.b.toNat * 256 + s.c.toNat ∧
      (readRr .de s).toNat = s.d.toNat * 256 + s.e.toNat ∧
      (readRr .hl s).toNat = s.h.toNat * 256 + s.l.toNat ∧ readRr .sp s = s.sp) ∧
    (∃ t, exec (.mkLdRr rr n) s = .next t ∧ readRr rr t = n ∧
      (∀ q, q ≠ rr → readRr q t = readRr q s) ∧
      t = { s with b := t.b, c := t.c, d := t.d, e := t.e, h := t.h, l := t.l, sp := t.sp,
                   cycles := s.cycles + 12 }) ∧
    (∃ t, exec .ldSpHl s = .next t ∧ t = { s with sp := t.sp, cycles := s.cycles + 8 } ∧
      t.sp.toNat = s.h.toNat * 256 + s.l.toNat) ∧
    (∃ t, exec (.mkIncRr rr) s = .next t ∧ (readRr rr t).toNat = ((readRr rr s).toNat + 1) % 65536 ∧
      (∀ q, q ≠ rr → readRr q t = readRr q s) ∧
      t = { s with b := t.b, c := t.c, d := t.d, e := t.e, h := t.h, l := t.l, sp := t.sp,
                   cycles := s.cycles + 8 }) ∧
    (∃ t, exec (.mkDecRr rr) s = .next t ∧ (readRr rr t).toNat = ((readRr rr s).toNat + 65535) % 65536 ∧
      (∀ q, q ≠ rr → readRr q t = readRr q s) ∧
      t = { s with b := t.b, c := t.c, d := t.d, e := t.e, h := t.h, l := t.l, sp := t.sp,
                   cycles := s.cycles + 8 })

/-- `ADD SP,e8` and `LD HL,SP+e8` (R293, R294, R224): the opcodes 0xE8 and 0xF8 with the offset byte after
them; the signed sum modulo 2^16, Z and N clear, H and C from the unsigned low-byte addition. -/
def Obligations.StackPointerPlusOffset : Prop :=
  ∀ (e b2 : Byte) (s : State),
    (decodeBytes 0xE8 e b2 = .addSpE8 e ∧ opLength 0xE8 = 2 ∧ decodeBytes 0xF8 e b2 = .ldHlSpE8 e ∧
      opLength 0xF8 = 2) ∧
    (∃ t, exec (.addSpE8 e) s = .next t ∧ t = { s with sp := t.sp, f := t.f, cycles := s.cycles + 16 } ∧
      (t.sp.toNat : Int) = ((s.sp.toNat : Int) + e.toInt) % 65536 ∧
      FlagsAre t false false (decide (s.sp.toNat % 16 + e.toNat % 16 > 15))
        (decide (s.sp.toNat % 256 + e.toNat > 255))) ∧
    (∃ t, exec (.ldHlSpE8 e) s = .next t ∧
      t = { s with h := t.h, l := t.l, f := t.f, cycles := s.cycles + 12 } ∧
      ((getHl t).toNat : Int) = ((s.sp.toNat : Int) + e.toInt) % 65536 ∧
      FlagsAre t false false (decide (s.sp.toNat % 16 + e.toNat % 16 > 15))
        (decide (s.sp.toNat % 256 + e.toNat > 255)))

/-- PUSH and POP (R225..R228; R102's byte order is [decision D48]): the high byte at SP - 1, then the low byte
at SP - 2, and back; SP moves by two modulo 2^16; POP AF clears the low nibble of F. A pair X:Y is
`X * 256 + Y` (R32). -/
def Obligations.PushAndPop : Prop :=
  ∀ (q : QQ) (s : State),
    ((readQq .bc s).toNat = s.b.toNat * 256 + s.c.toNat ∧
      (readQq .de s).toNat = s.d.toNat * 256 + s.e.toNat ∧
      (readQq .hl s).toNat = s.h.toNat * 256 + s.l.toNat ∧
      (readQq .af s).toNat = s.a.toNat * 256 + s.f.toNat) ∧
    exec (.mkPush q) s = .next { afterPush (readQq q s) s with cycles := s.cycles + 16 } ∧
    ∃ t, exec (.mkPop q) s = .next t ∧
      (readQq q t).toNat = (busRead (s.sp + 1) s).toNat * 256 +
        (if q = .af then (busRead s.sp s).toNat / 16 * 16 else (busRead s.sp s).toNat) ∧
      (∀ p, p ≠ q → readQq p t = readQq p s) ∧
      t = { s with a := t.a, f := t.f, b := t.b, c := t.c, d := t.d, e := t.e, h := t.h, l := t.l,
                   sp := s.sp + 2, cycles := s.cycles + 12 }

/-- PUSH then POP of the same pair in plain RAM restores the pair, with AF's low nibble cleared, and SP (R227,
R228). -/
def Obligations.PushThenPopRestores : Prop :=
  ∀ (q : QQ) (s : State), plainRam (s.sp - 1) → plainRam (s.sp - 2) →
    ∃ t u, exec (.mkPush q) s = .next t ∧ exec (.mkPop q) t = .next u ∧ u.sp = s.sp ∧
      readQq q u = (if q = .af then readQq q s &&& 0xFFF0#16 else readQq q s)

/-! ### Arithmetic and logic -/

/-- ADD and ADC, of a register, of the byte at HL and of an immediate (R250..R253; the flag equations are the
spec's [from general knowledge]). -/
def Obligations.AddAndAdc : Prop :=
  ∀ (r : R8) (v : Byte) (s : State),
    Adds (readR8 r s) 0 (if r = .atHl then 8 else 4) s (exec (.mkAlu .add r) s) ∧
    Adds v 0 8 s (exec (.mkAluN .add v) s) ∧
    Adds (readR8 r s) (flagC s).toNat (if r = .atHl then 8 else 4) s (exec (.mkAlu .adc r) s) ∧
    Adds v (flagC s).toNat 8 s (exec (.mkAluN .adc v) s)

/-- SUB, SBC and CP in the same three forms (R254, R255, R259; the flag equations are the spec's [from general
knowledge]); CP writes no register but F. -/
def Obligations.SubSbcAndCp : Prop :=
  ∀ (r : R8) (v : Byte) (s : State),
    Subtracts false (readR8 r s) 0 (if r = .atHl then 8 else 4) s (exec (.mkAlu .sub r) s) ∧
    Subtracts false v 0 8 s (exec (.mkAluN .sub v) s) ∧
    Subtracts false (readR8 r s) (flagC s).toNat (if r = .atHl then 8 else 4) s (exec (.mkAlu .sbc r) s) ∧
    Subtracts false v (flagC s).toNat 8 s (exec (.mkAluN .sbc v) s) ∧
    Subtracts true (readR8 r s) 0 (if r = .atHl then 8 else 4) s (exec (.mkAlu .cp r) s) ∧
    Subtracts true v 0 8 s (exec (.mkAluN .cp v) s)

/-- AND, XOR and OR in the same three forms, bit by bit (R256..R258; the flags are the spec's [from general
knowledge]). -/
def Obligations.AndXorAndOr : Prop :=
  ∀ (r : R8) (v : Byte) (s : State),
    Combines and true (readR8 r s) (if r = .atHl then 8 else 4) s (exec (.mkAlu .and r) s) ∧
    Combines and true v 8 s (exec (.mkAluN .and v) s) ∧
    Combines xor false (readR8 r s) (if r = .atHl then 8 else 4) s (exec (.mkAlu .xor r) s) ∧
    Combines xor false v 8 s (exec (.mkAluN .xor v) s) ∧
    Combines or false (readR8 r s) (if r = .atHl then 8 else 4) s (exec (.mkAlu .or r) s) ∧
    Combines or false v 8 s (exec (.mkAluN .or v) s)

/-- INC and DEC of a register or of the byte at HL (R260..R263; the flag equations are the spec's [from
general knowledge]): C is unchanged, and on (HL) the result is stored where the operand was read. -/
def Obligations.IncrementAndDecrement : Prop :=
  ∀ (r : R8) (s : State),
    (∃ (t : State) (res : Byte), exec (.mkInc r) s = .next t ∧
      res.toNat = ((readR8 r s).toNat + 1) % 256 ∧
      t = { writeR8 r res s with f := t.f, cycles := s.cycles + if r = .atHl then 12 else 4 } ∧
      FlagsAre t (res == 0) false (decide ((readR8 r s).toNat % 16 = 15)) (flagC s)) ∧
    (∃ (t : State) (res : Byte), exec (.mkDec r) s = .next t ∧
      res.toNat = ((readR8 r s).toNat + 255) % 256 ∧
      t = { writeR8 r res s with f := t.f, cycles := s.cycles + if r = .atHl then 12 else 4 } ∧
      FlagsAre t (res == 0) true (decide ((readR8 r s).toNat % 16 = 0)) (flagC s))

/-- DAA, SCF and CCF (R264, R266, R267; the Z, H and C treatment is the spec's [from general knowledge]): DAA's
adjustment is added or taken away on unbounded integers, from the values before the instruction. The flags
Z, N, H and C are bits 7, 6, 5 and 4 of F (R33). -/
def Obligations.DaaScfAndCcf : Prop :=
  ∀ s : State,
    (flagZ s = bit s.f 7 ∧ flagN s = bit s.f 6 ∧ flagH s = bit s.f 5 ∧ flagC s = bit s.f 4) ∧
    (∃ t, exec .daa s = .next t ∧ t = { s with a := t.a, f := t.f, cycles := s.cycles + 4 } ∧
      (flagN s = false →
        t.a.toNat = (s.a.toNat + (if flagH s ∨ s.a.toNat % 16 > 9 then 6 else 0) +
          (if flagC s ∨ s.a.toNat > 0x99 then 0x60 else 0)) % 256 ∧
        FlagsAre t (t.a == 0) false false (flagC s || decide (s.a.toNat > 0x99))) ∧
      (flagN s = true →
        t.a.toNat = (s.a.toNat + 512 - (if flagH s then 6 else 0) - (if flagC s then 0x60 else 0)) % 256 ∧
        FlagsAre t (t.a == 0) true false (flagC s))) ∧
    (∃ t, exec .scf s = .next t ∧ t = { s with f := t.f, cycles := s.cycles + 4 } ∧
      FlagsAre t (flagZ s) false false true) ∧
    (∃ t, exec .ccf s = .next t ∧ t = { s with f := t.f, cycles := s.cycles + 4 } ∧
      FlagsAre t (flagZ s) false false (!flagC s))

/-- What DAA is for: after ADC or SBC of two-digit decimal numbers it gives the decimal sum or difference, and
C is the decimal carry or borrow (R253, R255, R264). -/
def Obligations.DecimalAdjustIsDecimal : Prop :=
  ∀ (s : State) (x y : Nat), x < 100 → y < 100 → s.a = bcd x →
    (∃ t u, exec (.adcAN8 (bcd y)) s = .next t ∧ exec .daa t = .next u ∧
      u.a = bcd ((x + y + (flagC s).toNat) % 100) ∧
      flagC u = decide (x + y + (flagC s).toNat ≥ 100)) ∧
    (∃ t u, exec (.sbcAN8 (bcd y)) s = .next t ∧ exec .daa t = .next u ∧
      u.a = bcd ((x + 100 - y - (flagC s).toNat) % 100) ∧
      flagC u = decide (x < y + (flagC s).toNat))

/-- CPL (R265): the opcode 0x2F; every bit of A inverted, N and H set, Z and C kept, in 4 T-cycles. -/
def Obligations.ComplementAccumulator : Prop :=
  ∀ (b1 b2 : Byte) (s : State), decodeBytes 0x2F b1 b2 = .cpl ∧ opLength 0x2F = 1 ∧
    ∃ t, exec .cpl s = .next t ∧ t = { s with a := t.a, f := t.f, cycles := s.cycles + 4 } ∧
      t.a.toNat = 255 - s.a.toNat ∧ FlagsAre t (flagZ s) true true (flagC s)

/-- `ADD HL,rr` (R290): the opcode 00 pp1 001; the sum modulo 2^16, Z kept, N clear, H from bit 11, C from
bit 15, in 8 T-cycles. -/
def Obligations.AddToHl : Prop :=
  (∀ b1 b2 : Byte, decodeBytes 0x09 b1 b2 = .mkAddHl .bc ∧ decodeBytes 0x19 b1 b2 = .mkAddHl .de ∧
    decodeBytes 0x29 b1 b2 = .mkAddHl .hl ∧ decodeBytes 0x39 b1 b2 = .mkAddHl .sp) ∧
  (∀ b : Byte, b ∈ [0x09#8, 0x19#8, 0x29#8, 0x39#8] → opLength b = 1) ∧
  ∀ (rr : RR) (s : State), ∃ t, exec (.mkAddHl rr) s = .next t ∧
    t = { s with h := t.h, l := t.l, f := t.f, cycles := s.cycles + 8 } ∧
    (getHl t).toNat = ((getHl s).toNat + (readRr rr s).toNat) % 65536 ∧
    FlagsAre t (flagZ s) false (decide ((getHl s).toNat % 4096 + (readRr rr s).toNat % 4096 > 4095))
      (decide ((getHl s).toNat + (readRr rr s).toNat > 65535))

/-! ### Rotates, shifts and bits -/

/-- The rotates, shifts and SWAP, bit by bit (R310..R322; the results are the spec's [from general knowledge],
the counts [decision D10]): RLCA, RRCA, RLA and RRA always clear Z, the CB forms on all eight operands take it
from the result. -/
def Obligations.RotatesAndShifts : Prop :=
  (∀ (k : RotOp) (i : Instr) (s : State),
    (k, i) ∈ [(RotOp.rlc, Instr.rlca), (.rrc, .rrca), (.rl, .rla), (.rr, .rra)] →
    ∃ t, exec i s = .next t ∧ t = { s with a := t.a, f := t.f, cycles := s.cycles + 4 } ∧
      (∀ j, j < 8 → bit t.a j = rotatedBit k s.a (flagC s) j) ∧
      FlagsAre t false false false (rotatedOut k s.a)) ∧
  ∀ (k : RotOp) (r : R8) (s : State), ∃ (t : State) (res : Byte), exec (.mkRot k r) s = .next t ∧
    (∀ j, j < 8 → bit res j = rotatedBit k (readR8 r s) (flagC s) j) ∧
    t = { writeR8 r res s with f := t.f, cycles := s.cycles + if r = .atHl then 16 else 8 } ∧
    FlagsAre t (res == 0) false false (rotatedOut k (readR8 r s))

/-- BIT, RES and SET of every bit on all eight operands (R310, R323..R325; the semantics are the spec's [from
general knowledge]): BIT writes only Z, N and H; RES and SET write one bit back and no flag. -/
def Obligations.BitResAndSet : Prop :=
  ∀ (n : Fin 8) (r : R8) (s : State),
    (∃ t, exec (.mkBit n r) s = .next t ∧
      t = { s with f := t.f, cycles := s.cycles + if r = .atHl then 12 else 8 } ∧
      FlagsAre t (!bit (readR8 r s) n) false true (flagC s)) ∧
    (∃ res : Byte, exec (.mkRes n r) s =
        .next { writeR8 r res s with cycles := s.cycles + if r = .atHl then 16 else 8 } ∧
      ∀ j, j < 8 → bit res j = if j = n.val then false else bit (readR8 r s) j) ∧
    (∃ res : Byte, exec (.mkSet n r) s =
        .next { writeR8 r res s with cycles := s.cycles + if r = .atHl then 16 else 8 } ∧
      ∀ j, j < 8 → bit res j = if j = n.val then true else bit (readR8 r s) j)

/-! ### Control transfers -/

/-- The conditions and the absolute and relative jumps (R350..R355; the targets are the spec's [from general
knowledge]): a conditional one that is not taken changes nothing but the cycle count, PC being past it
already. -/
def Obligations.Jumps : Prop :=
  ∀ (cc : Cond) (a : Word) (e : Byte) (s : State),
    (holds .nz s = !bit s.f 7 ∧ holds .z s = bit s.f 7 ∧ holds .nc s = !bit s.f 4 ∧
      holds .c s = bit s.f 4) ∧
    exec (.jpA16 a) s = .next { s with pc := a, cycles := s.cycles + 16 } ∧
    exec .jpHl s = .next { s with pc := getHl s, cycles := s.cycles + 4 } ∧
    exec (.mkJp cc a) s = .next (if holds cc s then { s with pc := a, cycles := s.cycles + 16 }
      else { s with cycles := s.cycles + 12 }) ∧
    (∃ target : Word, (target.toNat : Int) = ((s.pc.toNat : Int) + e.toInt) % 65536 ∧
      exec (.jrE8 e) s = .next { s with pc := target, cycles := s.cycles + 12 } ∧
      exec (.mkJr cc e) s = .next (if holds cc s then { s with pc := target, cycles := s.cycles + 12 }
        else { s with cycles := s.cycles + 8 }))

/-- CALL, CALL cc and RST (R356, R357, R361; the targets are the spec's [from general knowledge]): PC, the
address of the next instruction, is pushed and PC goes to the target; an untaken CALL pushes nothing. -/
def Obligations.CallsAndRestarts : Prop :=
  ∀ (cc : Cond) (a : Word) (y : Fin 8) (s : State),
    exec (.callA16 a) s = .next { afterPush s.pc s with pc := a, cycles := s.cycles + 24 } ∧
    exec (.mkCall cc a) s =
      .next (if holds cc s then { afterPush s.pc s with pc := a, cycles := s.cycles + 24 }
        else { s with cycles := s.cycles + 12 }) ∧
    exec (.mkRst y) s =
      .next { afterPush s.pc s with pc := BitVec.ofNat 16 (y.val * 8), cycles := s.cycles + 16 }

/-- RET, RET cc and RETI (R358..R360): PC is popped, and RETI sets IME at once ([decision D7]), leaving the
schedule as it is. -/
def Obligations.Returns : Prop :=
  ∀ (cc : Cond) (s : State), ∃ target : Word,
    target.toNat = (busRead (s.sp + 1) s).toNat * 256 + (busRead s.sp s).toNat ∧
    exec .ret s = .next { s with pc := target, sp := s.sp + 2, cycles := s.cycles + 16 } ∧
    exec (.mkRet cc) s = .next (if holds cc s then
        { s with pc := target, sp := s.sp + 2, cycles := s.cycles + 20 }
      else { s with cycles := s.cycles + 8 }) ∧
    exec .reti s = .next { s with pc := target, sp := s.sp + 2, ime := true, cycles := s.cycles + 16 }

/-! ### System instructions -/

/-- NOP, STOP, DI and EI (R380, R382..R384; STOP's cycle count is [decision D8], DI's clearing of the schedule
[decision D3]). -/
def Obligations.NopStopDiEi : Prop :=
  ∀ (n : Byte) (s : State),
    exec .nop s = .next { s with cycles := s.cycles + 4 } ∧
    exec (.stopN8 n) s = .next { s with stopped := true, cycles := s.cycles + 4 } ∧
    exec .di s = .next { s with ime := false, imeScheduled := false, cycles := s.cycles + 4 } ∧
    exec .ei s = .next { s with imeScheduled := true, cycles := s.cycles + 4 }

/-- HALT (R381): it halts when IME is set or no enabled interrupt is requested, and arms the halt bug
otherwise. -/
def Obligations.HaltOrHaltBug : Prop :=
  ∀ s : State,
    (s.ime = true ∨ (∀ i, i < 5 → ¬(s.ieReg.getLsbD i = true ∧ s.ifReg.getLsbD i = true)) →
      exec .halt s = .next { s with halted := true, cycles := s.cycles + 4 }) ∧
    (s.ime = false → (∃ i, i < 5 ∧ s.ieReg.getLsbD i = true ∧ s.ifReg.getLsbD i = true) →
      exec .halt s = .next { s with haltBug := true, cycles := s.cycles + 4 })

/-- The prefix byte by itself fetches one more byte and executes the CB instruction it selects, whose cycles
are the whole count (R385, R161; [decision D10]). Under the halt bug that fetch spends the bug in place of
advancing PC (R36). -/
def Obligations.PrefixRunsCbInstruction : Prop :=
  ∀ s : State,
    (s.haltBug = false → ∃ t, exec .prefixCb s = .next t ∧
      exec (decodeBytes 0xCB (busRead s.pc s) 0) { s with pc := s.pc + 1 } = .next t) ∧
    (s.haltBug = true → ∃ t, exec .prefixCb s = .next t ∧
      exec (decodeBytes 0xCB (busRead s.pc s) 0) { s with haltBug := false } = .next t)

/-! ### All instructions -/

/-- The T-cycles of opcode_table.json (R175, R645): a whole, legal instruction takes the taken or the
not-taken count of its row (the counts are the spec's [from general knowledge]). -/
def Obligations.CyclesOfTable : Prop :=
  ∀ (i : Instr) (s : State), i.wellFormed = true → i.illegalOpcode = none →
    ∃ t, exec i s = .next t ∧
      (t.cycles = s.cycles + i.tableCycles.1 ∨ t.cycles = s.cycles + i.tableCycles.2)

/-- THE MEMORY FRAME OF EVERY INSTRUCTION. A byte that no address the instruction stores to reaches reads
after it as it read before it; an instruction that stores nothing leaves every byte (R82, R98). -/
def Obligations.InstructionMemoryFrame : Prop :=
  ∀ (i : Instr) (s t : State) (y : Word), exec i s = .next t →
    (∀ x ∈ storedAt i s, reaches s x y = false) → busRead y t = busRead y s

/-! ### The bus -/

/-- Work RAM, its echo and high RAM (R84, R85, R91): the cell each address reads and writes, so that a byte
written is read back at its own address and at the address that mirrors it. -/
def Obligations.RamAndEchoReadBack : Prop :=
  ∀ (x : Word) (v : Byte) (s : State),
    (0xC000 ≤ x.toNat → x.toNat ≤ 0xDFFF → busRead x s = memRead s.wram (x.toNat - 0xC000) ∧
      busWrite x v s = { s with wram := memWrite s.wram (x.toNat - 0xC000) v } ∧
      busRead x (busWrite x v s) = v) ∧
    (0xE000 ≤ x.toNat → x.toNat ≤ 0xFDFF → busRead x s = memRead s.wram (x.toNat - 0xE000) ∧
      busWrite x v s = { s with wram := memWrite s.wram (x.toNat - 0xE000) v } ∧
      busRead (x - 0x2000) (busWrite x v s) = v ∧ busRead x (busWrite (x - 0x2000) v s) = v) ∧
    (0xFF80 ≤ x.toNat → x.toNat ≤ 0xFFFE → busRead x s = memRead s.hram (x.toNat - 0xFF80) ∧
      busWrite x v s = { s with hram := memWrite s.hram (x.toNat - 0xFF80) v } ∧
      busRead x (busWrite x v s) = v)

/-- VRAM and OAM (R87, R89; that a blocked write is ignored is [decision D17]): closed, they read 0xFF and
ignore writes; open, a byte written is read back. -/
def Obligations.VideoMemoryGating : Prop :=
  ∀ (x : Word) (v : Byte) (s : State),
    (0x8000 ≤ x.toNat → x.toNat ≤ 0x9FFF →
      (s.ppu.lcdOn = true ∧ s.ppu.mode = .draw → busRead x s = 0xFF ∧ busWrite x v s = s) ∧
      (¬(s.ppu.lcdOn = true ∧ s.ppu.mode = .draw) → busRead x (busWrite x v s) = v)) ∧
    (0xFE00 ≤ x.toNat → x.toNat ≤ 0xFE9F →
      (s.dma.active = true ∨ s.ppu.lcdOn = true ∧ (s.ppu.mode = .oamScan ∨ s.ppu.mode = .draw) →
        busRead x s = 0xFF ∧ busWrite x v s = s) ∧
      (¬(s.dma.active = true ∨ s.ppu.lcdOn = true ∧ (s.ppu.mode = .oamScan ∨ s.ppu.mode = .draw)) →
        busRead x (busWrite x v s) = v))

/-- The unused range and the unmapped I/O addresses read 0xFF and ignore writes (R90, R93; the list of
unmapped addresses is [decision D19]). -/
def Obligations.UnmappedReadsOpenBus : Prop :=
  ∀ (x : Word) (v : Byte) (s : State),
    (0xFEA0 ≤ x.toNat ∧ x.toNat ≤ 0xFEFF ∨ x.toNat = 0xFF03 ∨ 0xFF08 ≤ x.toNat ∧ x.toNat ≤ 0xFF0E ∨
      0xFF4C ≤ x.toNat ∧ x.toNat ≤ 0xFF4F ∨ 0xFF51 ≤ x.toNat ∧ x.toNat ≤ 0xFF7F) →
    busRead x s = 0xFF ∧ busWrite x v s = s

/-- IF and IE (R42, R43; that five bits are stored is [decision D46]): a write keeps the low five bits, IF
reads with its top three bits set and IE with them clear. -/
def Obligations.InterruptRegisters : Prop :=
  ∀ (v : Byte) (s : State),
    (busWrite 0xFF0F v s).ifReg.toNat = v.toNat % 32 ∧
    (busRead 0xFF0F (busWrite 0xFF0F v s)).toNat = 0xE0 + v.toNat % 32 ∧
    (busWrite 0xFFFF v s).ieReg.toNat = v.toNat % 32 ∧
    (busRead 0xFFFF (busWrite 0xFFFF v s)).toNat = v.toNat % 32

/-- The MBC registers (R125, R126, R128, R129; the masks and the modulus are [decision D34]): the low nibble
0xA enables RAM, the masked ROM bank is never 0, and the banks show through. -/
def Obligations.CartridgeBanking : Prop :=
  ∀ (x : Word) (v : Byte) (s : State), s.cart.family ≠ .none →
    (x.toNat ≤ 0x1FFF → busWrite x v s =
      { s with cart := { s.cart with ramEnable := decide (v.toNat % 16 = 10) } }) ∧
    (0x2000 ≤ x.toNat → x.toNat ≤ 0x3FFF → ∃ bank : Byte, busWrite x v s =
        { s with cart := { s.cart with romBank := bank } } ∧
      bank.toNat = max 1 (v.toNat % (match s.cart.family with
        | .mbc1 => 32 | .mbc2 => 16 | .mbc3 => 128 | .mbc5 | .none => 256))) ∧
    (s.bootVisible = false → x.toNat ≤ 0x3FFF → busRead x s = memRead s.cart.rom x.toNat) ∧
    (0x4000 ≤ x.toNat → x.toNat ≤ 0x7FFF → busRead x s = memRead s.cart.rom
      (s.cart.romBank.toNat % s.cart.nrom * 0x4000 + (x.toNat - 0x4000)))

/-- External RAM of the banked families (R132, R133; the write side is [decision D34]): disabled or absent it
reads 0xFF and ignores writes, enabled it holds what is written. -/
def Obligations.ExternalRam : Prop :=
  ∀ (x : Word) (v : Byte) (s : State), 0xA000 ≤ x.toNat → x.toNat ≤ 0xBFFF → s.cart.family ≠ .mbc2 →
    (s.cart.family = .mbc3 → s.cart.ramEnable = false ∨ s.cart.rtcSel = none) →
    ((s.cart.family ≠ .none ∧ s.cart.ramEnable = false) ∨ s.cart.nram = 0 →
      busRead x s = 0xFF ∧ busWrite x v s = s) ∧
    ((s.cart.family = .none ∨ s.cart.ramEnable = true) → s.cart.nram ≠ 0 →
      busRead x (busWrite x v s) = v ∧ busRead x s = memRead s.cart.ram
        (s.cart.ramBank.toNat % s.cart.nram * 0x2000 + (x.toNat - 0xA000)))

/-! ### The devices -/

/-- The divider (R440, R48): every timer step adds its T-cycles modulo 2^16, whatever TAC holds; DIV reads the
upper byte; any write zeroes the whole counter, after which DIV reads 0 for 255 T-cycles and 1 at 256. -/
def Obligations.DividerCounts : Prop :=
  ∀ (c : Nat) (v : Byte) (s : State),
    (stepTimer c s).timer.divCounter.toNat = (s.timer.divCounter.toNat + c) % 65536 ∧
    (busRead 0xFF04 s).toNat = s.timer.divCounter.toNat / 256 ∧
    busWrite 0xFF04 v s = { s with timer := { s.timer with divCounter := 0 } } ∧
    (c ≤ 255 → busRead 0xFF04 (stepTimer c (busWrite 0xFF04 v s)) = 0) ∧
    (c = 256 → busRead 0xFF04 (stepTimer c (busWrite 0xFF04 v s)) = 1)

/-- TIMA (R441, R442; the accumulator is [decision D12]). With the timer off nothing counts. With it on, the
step makes `n = (tima_acc + c) / N` increments: without an overflow TIMA is their sum and nothing is
requested; with the first overflow in reach the reload from TMA counts on and the Timer interrupt is
requested. -/
def Obligations.TimaCountsAndReloads : Prop :=
  ∀ (c : Nat) (s : State),
    (s.timer.tac.getLsbD 2 = false →
      (stepTimer c s).timer = { s.timer with divCounter := (stepTimer c s).timer.divCounter } ∧
      (stepTimer c s).ifReg = s.ifReg) ∧
    (s.timer.tac.getLsbD 2 = true → ∀ N n : Nat,
      N = (match s.timer.tac.toNat % 4 with | 0 => 1024 | 1 => 16 | 2 => 64 | _ => 256) →
      n = (s.timer.timaAcc + c) / N →
      (stepTimer c s).timer.timaAcc = (s.timer.timaAcc + c) % N ∧
      (s.timer.tima.toNat + n ≤ 255 → (stepTimer c s).timer.tima.toNat = s.timer.tima.toNat + n ∧
        (stepTimer c s).ifReg = s.ifReg) ∧
      (255 < s.timer.tima.toNat + n → (stepTimer c s).ifReg = s.ifReg ||| 0x04 ∧
        (s.timer.tima.toNat + n - 256 + s.timer.tma.toNat ≤ 255 →
          (stepTimer c s).timer.tima.toNat = s.timer.tima.toNat + n - 256 + s.timer.tma.toNat)))

/-- The serial unit (R53, R54, R450..R452; the SC read, the restart and the dropped excess are [decision D14]):
SB is a plain register; a write to SC stores its bits 7 and 0 and restarts the count, and SC reads its other
bits as 1; a transfer on the internal clock counts to 4096 T-cycles, then SB becomes 0xFF, SC bit 7 clears, the
Serial interrupt is requested and the observer, if on, gets the byte. -/
def Obligations.SerialTransferCompletes : Prop :=
  ∀ (c : Nat) (v : Byte) (s : State),
    (busRead 0xFF01 s = s.serial.sb ∧
      busWrite 0xFF01 v s = { s with serial := { s.serial with sb := v } }) ∧
    (busWrite 0xFF02 v s =
        { s with serial := { s.serial with sc7 := bit v 7, sc0 := bit v 0, serialAcc := 0 } } ∧
      ∀ i, i < 8 → bit (busRead 0xFF02 s) i =
        if i = 7 then s.serial.sc7 else if i = 0 then s.serial.sc0 else true) ∧
    (¬(s.serial.sc7 = true ∧ s.serial.sc0 = true) → stepSerial c s = s) ∧
    (s.serial.sc7 = true → s.serial.sc0 = true → s.serial.serialAcc + c < 4096 →
      stepSerial c s = { s with serial := { s.serial with serialAcc := s.serial.serialAcc + c } }) ∧
    (s.serial.sc7 = true → s.serial.sc0 = true → 4096 ≤ s.serial.serialAcc + c →
      stepSerial c s = { s with
        serial := ⟨0xFF, false, true, 0⟩
        ifReg := s.ifReg ||| 0x08
        host := { s.host with serialOut :=
          if s.params.serialObserver then s.host.serialOut ++ [s.serial.sb] else s.host.serialOut } })

/-- OAM DMA (R460, R461; the first step's counting is [decision D15]): a write to 0xFF46 starts a transfer; a
DMA step of `c` T-cycles copies one byte for every 4, each from the source page into OAM at the same index,
and stops after 160. -/
def Obligations.OamDmaCopies : Prop :=
  ∀ (c : Nat) (v : Byte) (s : State),
    busWrite 0xFF46 v s = { s with dma := ⟨v, true, 0, 0⟩ } ∧
    (s.dma.active = false → stepDma c s = s) ∧
    (s.dma.active = true → s.dma.index < 160 → ∀ n, n = (s.dma.acc + c) / 4 →
      (stepDma c s).dma = (if s.dma.index + n < 160
        then ⟨s.dma.src, true, s.dma.index + n, (s.dma.acc + c) % 4⟩ else ⟨s.dma.src, false, 160, 0⟩) ∧
      (∀ k, k < 160 → memRead (stepDma c s).ppu.oam k =
        if s.dma.index ≤ k ∧ k < s.dma.index + n
        then busRead (BitVec.ofNat 16 (s.dma.src.toNat * 256 + k)) s else memRead s.ppu.oam k))

/-- The joypad (R473, R56; the poll times and the bit layout are [decisions D40, D41]): a poll stores the
buttons and requests the interrupt exactly when a button of a selected row is newly pressed, and P1 reads a
pressed button of a selected row as 0. -/
def Obligations.JoypadPollAndRead : Prop :=
  ∀ (buttons : Byte) (j : Joypad),
    (joypadPoll buttons j).1 = { j with pressed := buttons } ∧
    ((joypadPoll buttons j).2 = 0x10 ↔ ∃ i, i < 8 ∧ bit buttons i = true ∧ bit j.pressed i = false ∧
      j.p1Select.getLsbD (if i < 4 then 1 else 0) = false) ∧
    ((joypadPoll buttons j).2 = 0x10 ∨ (joypadPoll buttons j).2 = 0) ∧
    (∀ i, i < 4 → (bit j.readP1 i = false ↔
      (j.p1Select.getLsbD 0 = false ∧ bit j.pressed (i + 4) = true) ∨
      (j.p1Select.getLsbD 1 = false ∧ bit j.pressed i = true)))

/-- The LCD switch (R510, R500; the enable transition is [decision D23]): switching off parks the PPU at line
0 in HBLANK with its current frame cleared, switching on starts the scan of line 0, and while the LCD is off a
PPU step does nothing. -/
def Obligations.LcdSwitch : Prop :=
  ∀ (v : Byte) (s : State),
    (s.ppu.lcdOn = true → bit v 7 = false → busWrite 0xFF40 v s = { s with ppu := { s.ppu with
      lcdc := v, fbCur := [], ly := 0, mode := .hblank, lineCycles := 0, winActive := false
      coincidence := decide (s.ppu.lyc = 0) } }) ∧
    (s.ppu.lcdOn = false → bit v 7 = true → busWrite 0xFF40 v s = { s with ppu := { s.ppu with
      lcdc := v, ly := 0, mode := .oamScan, lineCycles := 0, winActive := false, winLine := 0
      coincidence := decide (s.ppu.lyc = 0) } }) ∧
    (s.ppu.lcdOn = bit v 7 → busWrite 0xFF40 v s = { s with ppu := { s.ppu with lcdc := v } }) ∧
    (s.ppu.lcdOn = false → ∀ c, stepPpu c s = s)

/-- The last visible line ends in VBLANK (R515, R516, with R513's coincidence; R500's completing dot is [decision
D24]): from HBLANK with LY at or past 143, the dot that completes the line moves LY on, hands the frame over and
requests VBlank, and STAT when a select asks. That LY = 0xFF goes to 0x00 is the model's (log entry 12). -/
def Obligations.VblankEntry : Prop :=
  ∀ (d : Nat) (p : Ppu), p.mode = .hblank → 455 ≤ p.lineCycles → 143 ≤ p.ly.toNat →
    ∃ q r, Ppu.dot d p = (q, r) ∧ q.mode = .vblank ∧ q.ly = p.ly + 1 ∧ q.lineCycles = 0 ∧
      q.fbDone = p.fbCur ∧ q.frameReady = true ∧ q.winLine = 0 ∧ q.winActive = false ∧
      q.coincidence = decide (p.ly + 1 = p.lyc) ∧ r.getLsbD 0 = true ∧
      r.getLsbD 1 = (p.statSel.getLsbD 1 || (p.statSel.getLsbD 3 && decide (p.ly + 1 = p.lyc)))

/-- The OAM scan (R502): at most ten records, every one on the line, sorted by X, and of equal X in OAM order.
The ten are the first in OAM order: a record on the line is left out only when ten records before it are
taken. -/
def Obligations.OamScanSelectsAndSorts : Prop :=
  ∀ p : Ppu, p.oamScan.length ≤ 10 ∧
    (∀ s ∈ p.oamScan, s.index < 40 ∧ s = p.oamRecord s.index ∧
      s.y.toNat ≤ p.ly.toNat + 16 ∧
      p.ly.toNat + 16 < s.y.toNat + (if bit p.lcdc 2 then 16 else 8)) ∧
    p.oamScan.Pairwise (fun s t => s.x.toNat < t.x.toNat ∨ s.x.toNat = t.x.toNat ∧ s.index < t.index) ∧
    (∀ k, k < 40 → p.onLine (p.oamRecord k) = true →
      p.oamRecord k ∈ p.oamScan ∨ p.oamScan.length = 10 ∧ ∀ s ∈ p.oamScan, s.index < k)

/-! ### Reset and invariants -/

/-- The register values after the boot-ROM skip, and all zero with a boot ROM (R31). That the model's reset is
the cold launch is log entry 2. -/
def Obligations.ResetRegisters : Prop :=
  getAf State.reset = 0x01B0 ∧ getBc State.reset = 0x0013 ∧ getDe State.reset = 0x00D8 ∧
  getHl State.reset = 0x014D ∧ State.reset.sp = 0xFFFE ∧ State.reset.pc = 0x0100 ∧
  State.reset.ime = false ∧ State.reset.ifReg = 0 ∧ State.reset.ieReg = 0 ∧
  getAf State.bootColumn = 0 ∧ getBc State.bootColumn = 0 ∧ getDe State.bootColumn = 0 ∧
  getHl State.bootColumn = 0 ∧ State.bootColumn.sp = 0 ∧ State.bootColumn.pc = 0 ∧
  State.bootColumn.ime = false ∧ State.bootColumn.ifReg = 0 ∧ State.bootColumn.ieReg = 0

/-- The reset state is what the default cold-start writes, made through the bus, leave of the cold column
(R601, R603, R604; the table is [decision D21]; that the model resets to a cold launch is log entry 2). -/
def Obligations.ColdStartGivesReset : Prop :=
  coldStart defaultColdStart State.coldColumn = State.reset ∧ busRead 0xFF40 State.reset = 0x91 ∧
  busRead 0xFF41 State.reset = 0x86 ∧ busRead 0xFF07 State.reset = 0xF8 ∧
  busRead 0xFF47 State.reset = 0xFC ∧ busRead 0xFF26 State.reset = 0xF1

/-- The invariants below hold at reset (that reset is the cold launch with the blank cartridge is log entries 1
and 2). -/
def Obligations.ResetMeetsInvariants : Prop :=
  FlagsClean State.reset ∧ MemoriesCanonical State.reset ∧ MemoriesInRange State.reset ∧
  DevicesInRange State.reset ∧ RomBankNonzero State.reset ∧ PpuInRange State.reset.ppu ∧
  LcdOffInHblank State.reset.ppu ∧ CoincidenceExact State.reset.ppu

/-- The low nibble of F is zero after every step (R33). -/
def Obligations.FlagsCleanKept : Prop :=
  ∀ s t : State, FlagsClean s → step s = .next t → FlagsClean t

/-- Every step keeps every memory array in canonical form (the sparse form is the model's own, log entry 4). -/
def Obligations.MemoriesCanonicalKept : Prop :=
  ∀ s t : State, MemoriesCanonical s → step s = .next t → MemoriesCanonical t

/-- Every step keeps every memory array and every device counter inside the sizes and ranges the rules give, and
the selected ROM bank different from 0 (R45, R47, R52, R57, R58, R60, R69, R129). -/
def Obligations.StorageInRangeKept : Prop :=
  ∀ s t : State, MemoriesInRange s → DevicesInRange s → RomBankNonzero s → step s = .next t →
    MemoriesInRange t ∧ DevicesInRange t ∧ RomBankNonzero t

/-- Every step keeps the PPU's internal state in range, the LCD's off state in HBLANK and the coincidence bit
exact (R61, R501, R502, R510, R513, R521). -/
def Obligations.PpuConsistentKept : Prop :=
  ∀ s t : State, PpuInRange s.ppu → LcdOffInHblank s.ppu → CoincidenceExact s.ppu → step s = .next t →
    PpuInRange t.ppu ∧ LcdOffInHblank t.ppu ∧ CoincidenceExact t.ppu

/-- What no step changes: the launch parameters, the boot ROM and the cartridge's ROM, kind and sizes (R8,
R86); and the boot overlay, once off, stays off for the session (R46). -/
def Obligations.FixedForTheSession : Prop :=
  ∀ s t : State, step s = .next t →
    t.params = s.params ∧ t.bootRom = s.bootRom ∧ t.cart.rom = s.cart.rom ∧ t.cart.nrom = s.cart.nrom ∧
    t.cart.nram = s.cart.nram ∧ t.cart.family = s.cart.family ∧ t.cart.battery = s.cart.battery ∧
    (s.bootVisible = false → t.bootVisible = false)
end

