-- ==== Sys2Proof/Laws/Bits.lean ====
section
/-! SUPPORT. Byte order, sign extension and the flags as numbers. -/

namespace Sys2Proof.Machine

theorem lo8_eq (v : Word) : lo8 v = BitVec.ofNat 8 (v.toNat % 256) := by
  apply BitVec.eq_of_toNat_eq; simp [lo8]

theorem hi8_eq (v : Word) : hi8 v = BitVec.ofNat 8 (v.toNat / 256) := by
  apply BitVec.eq_of_toNat_eq; simp [hi8, Nat.shiftRight_eq_div_pow]

theorem pair_toNat (hi lo : Byte) : (pair hi lo).toNat = hi.toNat * 256 + lo.toNat := by
  simp only [pair, BitVec.toNat_append]
  rw [← Nat.shiftLeft_add_eq_or_of_lt lo.isLt, Nat.shiftLeft_eq]

/-- A word is its two bytes. -/
@[simp] theorem pair_hi8_lo8 (v : Word) : pair (hi8 v) (lo8 v) = v := by
  apply BitVec.eq_of_toNat_eq
  rw [pair_toNat, hi8_eq, lo8_eq]
  have := v.isLt
  simp; omega

@[simp] theorem hi8_pair (hi lo : Byte) : hi8 (pair hi lo) = hi := by
  have h1 := hi.isLt
  have h2 := lo.isLt
  apply BitVec.eq_of_toNat_eq
  rw [hi8_eq, pair_toNat, BitVec.toNat_ofNat]
  omega

@[simp] theorem lo8_pair (hi lo : Byte) : lo8 (pair hi lo) = lo := by
  have h1 := hi.isLt
  have h2 := lo.isLt
  apply BitVec.eq_of_toNat_eq
  rw [lo8_eq, pair_toNat, BitVec.toNat_ofNat]
  omega

@[simp] theorem getBc_setBc (v : Word) (s : State) : getBc (setBc v s) = v := pair_hi8_lo8 v
@[simp] theorem getDe_setDe (v : Word) (s : State) : getDe (setDe v s) = v := pair_hi8_lo8 v
@[simp] theorem getHl_setHl (v : Word) (s : State) : getHl (setHl v s) = v := pair_hi8_lo8 v

/-- The high page starts at 0xFF00. -/
theorem highPage_eq (n : Byte) : highPage n = BitVec.ofNat 16 (0xFF00 + n.toNat) := by
  apply BitVec.eq_of_toNat_eq
  have := n.isLt
  simp only [highPage, BitVec.toNat_or, BitVec.toNat_ofNat, BitVec.toNat_setWidth]
  rw [show (0xFF00 % 2 ^ 16 : Nat) = 0xFF <<< 8 by rfl, Nat.mod_eq_of_lt (by omega : n.toNat < 2 ^ 16),
    ← Nat.shiftLeft_add_eq_or_of_lt this]
  omega

/-- A sum with a sign-extended offset, as an integer. -/
theorem add_sext16_toNat (v : Word) (e : Byte) :
    ((v + sext16 e).toNat : Int) = ((v.toNat : Int) + e.toInt) % 65536 := by
  have h2 : (sext16 e).toInt = e.toInt := BitVec.toInt_signExtend_of_le (by decide)
  have h3 : ((sext16 e).toNat : Int) = e.toInt % 65536 := by
    have h := BitVec.toInt_eq_toNat_bmod (sext16 e)
    rw [h2] at h
    have h4 := (sext16 e).isLt
    rw [h]
    simp only [Int.bmod]
    split <;> omega
  rw [BitVec.toNat_add]
  push_cast
  rw [h3]
  omega

/-- The flags packed into F are the flags read from it. -/
theorem flagsAre_of_pack {z n h c : Bool} {t : State} (e : t.f = packFlags z n h c) : FlagsAre t z n h c := by
  unfold FlagsAre flagZ flagN flagH flagC
  rw [e]
  clear e
  revert z n h c
  decide

set_option maxRecDepth 4000 in
/-- Masking the low nibble away. -/
theorem and_F0_toNat (v : Byte) : (v &&& 0xF0#8).toNat = v.toNat / 16 * 16 := by
  revert v
  decide

set_option maxRecDepth 4000 in
/-- F's low nibble is zero exactly when masking it changes nothing. -/
theorem and_F0_clean (v : Byte) : (v &&& 0xF0#8) &&& 0x0F#8 = 0#8 := by
  revert v
  decide

theorem packFlags_clean (z n h c : Bool) : packFlags z n h c &&& 0x0F#8 = 0#8 := by
  revert z n h c
  decide

end Sys2Proof.Machine
end

