-- ==== Sys2Proof/Laws/Mem.lean ====
section
/-! SUPPORT. The memory arrays: a read after a write, and that every operation keeps the canonical form and
the size. -/

namespace Sys2Proof.Machine

variable {w : Nat}

theorem memRead_memErase_self (m : Mem w) (a : Nat) : memRead (memErase m a) a = 0 := by
  induction m with
  | nil => rfl
  | cons x m ih =>
    obtain ⟨k, v⟩ := x
    by_cases h : k = a <;> simp [memErase, memRead, h, ih]

theorem memRead_memErase_other (m : Mem w) {a b : Nat} (h : b ≠ a) :
    memRead (memErase m a) b = memRead m b := by
  induction m with
  | nil => rfl
  | cons x m ih =>
    obtain ⟨k, v⟩ := x
    by_cases hk : k = a
    · simp [memErase, memRead, hk, ih, Ne.symm h]
    · simp [memErase, memRead, hk, ih]

theorem memRead_memInsert_self (m : Mem w) (a : Nat) (v : BitVec w) (h : memErase m a = m) :
    memRead (memInsert m a v) a = v := by
  induction m with
  | nil => simp [memInsert, memRead]
  | cons x m ih =>
    obtain ⟨k, u⟩ := x
    have hk : k ≠ a := by
      intro e
      have hl : ∀ m : Mem w, (memErase m a).length ≤ m.length := by
        intro m
        induction m with
        | nil => simp [memErase]
        | cons y m ih => obtain ⟨k', u'⟩ := y; by_cases h' : k' = a <;> simp [memErase, h'] <;> omega
      have := congrArg List.length h
      have := hl m
      simp_all [memErase]
    by_cases hlt : a < k
    · simp [memInsert, memRead, hlt]
    · simp only [memErase, hk, if_false, List.cons.injEq, true_and] at h
      simp [memInsert, memRead, hlt, hk, ih h]

theorem memRead_memInsert_other (m : Mem w) {a b : Nat} (v : BitVec w) (h : b ≠ a) :
    memRead (memInsert m a v) b = memRead m b := by
  induction m with
  | nil => simp [memInsert, memRead, Ne.symm h]
  | cons x m ih =>
    obtain ⟨k, u⟩ := x
    by_cases hlt : a < k
    · simp [memInsert, memRead, hlt, Ne.symm h]
    · simp [memInsert, memRead, hlt, ih]

theorem memErase_memErase (m : Mem w) (a : Nat) : memErase (memErase m a) a = memErase m a := by
  induction m with
  | nil => rfl
  | cons x m ih =>
    obtain ⟨k, v⟩ := x
    by_cases h : k = a <;> simp [memErase, h, ih]

/-- A read of the cell just written. -/
@[simp] theorem memRead_memWrite_self (m : Mem w) (a : Nat) (v : BitVec w) :
    memRead (memWrite m a v) a = v := by
  unfold memWrite
  split
  · rename_i h; rw [memRead_memErase_self, h]
  · exact memRead_memInsert_self _ _ _ (memErase_memErase m a)

/-- A read of any other cell. -/
theorem memRead_memWrite_other (m : Mem w) {a b : Nat} (v : BitVec w) (h : b ≠ a) :
    memRead (memWrite m a v) b = memRead m b := by
  unfold memWrite
  split
  · exact memRead_memErase_other m h
  · rw [memRead_memInsert_other _ _ h, memRead_memErase_other m h]

/-- A read after a write, whichever the cell. -/
theorem memRead_memWrite (m : Mem w) (a b : Nat) (v : BitVec w) :
    memRead (memWrite m a v) b = if b = a then v else memRead m b := by
  split
  · rename_i h; rw [h, memRead_memWrite_self]
  · rename_i h; exact memRead_memWrite_other m v h

/-! ### The canonical form -/

theorem Memory.wf_iff (m : Mem w) :
    Memory.wf m = true ↔ m.Pairwise (fun x y => x.1 < y.1) ∧ ∀ x ∈ m, x.2 ≠ 0 := by
  simp [Memory.wf]

theorem mem_memErase {m : Mem w} {a : Nat} {x : Nat × BitVec w} :
    x ∈ memErase m a ↔ x ∈ m ∧ x.1 ≠ a := by
  induction m with
  | nil => simp [memErase]
  | cons y m ih =>
    obtain ⟨k, v⟩ := y
    by_cases h : k = a
    · simp only [memErase, h, if_true, ih, List.mem_cons]
      constructor
      · rintro ⟨h1, h2⟩; exact ⟨.inr h1, h2⟩
      · rintro ⟨rfl | h1, h2⟩
        · exact absurd rfl h2
        · exact ⟨h1, h2⟩
    · simp only [memErase, h, if_false, List.mem_cons, ih]
      constructor
      · rintro (rfl | ⟨h1, h2⟩)
        · exact ⟨.inl rfl, h⟩
        · exact ⟨.inr h1, h2⟩
      · rintro ⟨rfl | h1, h2⟩
        · exact .inl rfl
        · exact .inr ⟨h1, h2⟩

theorem mem_memInsert {m : Mem w} {a : Nat} {v : BitVec w} {x : Nat × BitVec w} :
    x ∈ memInsert m a v ↔ x = (a, v) ∨ x ∈ m := by
  induction m with
  | nil => simp [memInsert]
  | cons y m ih =>
    obtain ⟨k, u⟩ := y
    by_cases h : a < k
    · simp [memInsert, h]
    · simp only [memInsert, h, if_false, List.mem_cons, ih]
      tauto

theorem sorted_memErase {m : Mem w} (a : Nat) (h : m.Pairwise fun x y => x.1 < y.1) :
    (memErase m a).Pairwise fun x y => x.1 < y.1 := by
  induction m with
  | nil => exact h
  | cons y m ih =>
    obtain ⟨k, u⟩ := y
    rw [List.pairwise_cons] at h
    by_cases hk : k = a
    · simpa [memErase, hk] using ih h.2
    · simp only [memErase, hk, if_false, List.pairwise_cons]
      exact ⟨fun x hx => h.1 x (mem_memErase.1 hx).1, ih h.2⟩

theorem sorted_memInsert {m : Mem w} {a : Nat} (v : BitVec w) (h : m.Pairwise fun x y => x.1 < y.1)
    (ha : ∀ x ∈ m, x.1 ≠ a) : (memInsert m a v).Pairwise fun x y => x.1 < y.1 := by
  induction m with
  | nil => simp [memInsert]
  | cons y m ih =>
    obtain ⟨k, u⟩ := y
    have hp := h
    rw [List.pairwise_cons] at h
    by_cases hlt : a < k
    · simp only [memInsert, hlt, if_true]
      rw [List.pairwise_cons]
      refine ⟨fun x hx => ?_, hp⟩
      rcases List.mem_cons.1 hx with rfl | hx
      · exact hlt
      · exact Nat.lt_trans hlt (h.1 x hx)
    · have hk : k ≠ a := ha (k, u) (List.mem_cons_self ..)
      simp only [memInsert, hlt, if_false]
      rw [List.pairwise_cons]
      refine ⟨fun x hx => ?_, ih h.2 fun x hx => ha x (List.mem_cons_of_mem _ hx)⟩
      rcases mem_memInsert.1 hx with rfl | hx
      · simp only; omega
      · exact h.1 x hx

/-- A write keeps the canonical form. -/
theorem Memory.wf_memWrite {m : Mem w} (a : Nat) (v : BitVec w) (h : Memory.wf m = true) :
    Memory.wf (memWrite m a v) = true := by
  rw [Memory.wf_iff] at h ⊢
  unfold memWrite
  split
  · exact ⟨sorted_memErase a h.1, fun x hx => h.2 x (mem_memErase.1 hx).1⟩
  · rename_i hv
    refine ⟨sorted_memInsert v (sorted_memErase a h.1) fun x hx => (mem_memErase.1 hx).2, fun x hx => ?_⟩
    rcases mem_memInsert.1 hx with rfl | hx
    · exact hv
    · exact h.2 x (mem_memErase.1 hx).1

/-- A write below the bound keeps every index below the bound. -/
theorem Memory.within_memWrite {m : Mem w} {n a : Nat} (v : BitVec w) (ha : a < n)
    (h : Memory.within n m = true) : Memory.within n (memWrite m a v) = true := by
  simp only [Memory.within, List.all_eq_true, decide_eq_true_eq] at h ⊢
  intro x hx
  unfold memWrite at hx
  split at hx
  · exact h x (mem_memErase.1 hx).1
  · rcases mem_memInsert.1 hx with rfl | hx
    · exact ha
    · exact h x (mem_memErase.1 hx).1

/-! ### An array built from a list -/

theorem memOfList_ge (i : Nat) (l : List (BitVec w)) : ∀ x ∈ memOfList i l, i ≤ x.1 := by
  induction l generalizing i with
  | nil => simp [memOfList]
  | cons v l ih =>
    intro x hx
    unfold memOfList at hx
    split at hx
    · exact Nat.le_of_succ_le (ih (i + 1) x hx)
    · rcases List.mem_cons.1 hx with rfl | hx
      · exact Nat.le_refl _
      · exact Nat.le_of_succ_le (ih (i + 1) x hx)

theorem Memory.wf_memOfList (i : Nat) (l : List (BitVec w)) : Memory.wf (memOfList i l) = true := by
  induction l generalizing i with
  | nil => simp [memOfList, Memory.wf]
  | cons v l ih =>
    have h := (Memory.wf_iff _).1 (ih (i + 1))
    unfold memOfList
    split
    · exact ih (i + 1)
    · rename_i hv
      rw [Memory.wf_iff]
      refine ⟨List.pairwise_cons.2 ⟨fun x hx => memOfList_ge (i + 1) l x hx, h.1⟩, fun x hx => ?_⟩
      rcases List.mem_cons.1 hx with rfl | hx
      · exact hv
      · exact h.2 x hx

theorem Memory.within_memOfList (i : Nat) (l : List (BitVec w)) :
    Memory.within (i + l.length) (memOfList i l) = true := by
  induction l generalizing i with
  | nil => simp [memOfList, Memory.within]
  | cons v l ih =>
    have h := ih (i + 1)
    simp only [Memory.within, List.all_eq_true, decide_eq_true_eq, List.length_cons] at h ⊢
    intro x hx
    unfold memOfList at hx
    split at hx
    · have := h x hx; omega
    · rcases List.mem_cons.1 hx with rfl | hx
      · simp only; omega
      · have := h x hx; omega

/-- The cells of a list's array are the list's elements. -/
theorem memRead_memOfList (i : Nat) (l : List (BitVec w)) (k : Nat) :
    memRead (memOfList i l) k = if i ≤ k then l.getD (k - i) 0 else 0 := by
  induction l generalizing i with
  | nil => simp [memOfList, memRead]
  | cons v l ih =>
    unfold memOfList
    by_cases hv : v = 0
    · rw [if_pos hv, ih]
      by_cases h1 : i + 1 ≤ k
      · rw [if_pos h1, if_pos (by omega), show k - i = (k - (i + 1)) + 1 by omega]; simp
      · by_cases h2 : i ≤ k
        · rw [if_neg h1, if_pos h2, show k - i = 0 by omega]; simp [hv]
        · rw [if_neg h1, if_neg h2]
    · rw [if_neg hv]
      by_cases hk : i = k
      · simp [memRead, hk]
      · simp only [memRead, hk, if_false, ih]
        by_cases h1 : i + 1 ≤ k
        · rw [if_pos h1, if_pos (by omega), show k - i = (k - (i + 1)) + 1 by omega]; simp
        · rw [if_neg h1, if_neg (by omega)]

end Sys2Proof.Machine
end

