-- ==== Sys2Proof/Laws/State.lean ====
section
/-! SUPPORT. The updates of single fields, read back: one lemma for each field of each update. -/

namespace Sys2Proof.Machine

variable (s : State)

/-! ### `tick` -/

@[simp] theorem tick_a (n : Nat) : (tick n s).a = s.a := rfl
@[simp] theorem tick_f (n : Nat) : (tick n s).f = s.f := rfl
@[simp] theorem tick_b (n : Nat) : (tick n s).b = s.b := rfl
@[simp] theorem tick_c (n : Nat) : (tick n s).c = s.c := rfl
@[simp] theorem tick_d (n : Nat) : (tick n s).d = s.d := rfl
@[simp] theorem tick_e (n : Nat) : (tick n s).e = s.e := rfl
@[simp] theorem tick_h (n : Nat) : (tick n s).h = s.h := rfl
@[simp] theorem tick_l (n : Nat) : (tick n s).l = s.l := rfl
@[simp] theorem tick_sp (n : Nat) : (tick n s).sp = s.sp := rfl
@[simp] theorem tick_pc (n : Nat) : (tick n s).pc = s.pc := rfl
@[simp] theorem tick_ime (n : Nat) : (tick n s).ime = s.ime := rfl
@[simp] theorem tick_imeScheduled (n : Nat) : (tick n s).imeScheduled = s.imeScheduled := rfl
@[simp] theorem tick_halted (n : Nat) : (tick n s).halted = s.halted := rfl
@[simp] theorem tick_haltBug (n : Nat) : (tick n s).haltBug = s.haltBug := rfl
@[simp] theorem tick_stopped (n : Nat) : (tick n s).stopped = s.stopped := rfl
@[simp] theorem tick_ifReg (n : Nat) : (tick n s).ifReg = s.ifReg := rfl
@[simp] theorem tick_ieReg (n : Nat) : (tick n s).ieReg = s.ieReg := rfl
@[simp] theorem tick_fault (n : Nat) : (tick n s).fault = s.fault := rfl
@[simp] theorem tick_wram (n : Nat) : (tick n s).wram = s.wram := rfl
@[simp] theorem tick_hram (n : Nat) : (tick n s).hram = s.hram := rfl
@[simp] theorem tick_bootRom (n : Nat) : (tick n s).bootRom = s.bootRom := rfl
@[simp] theorem tick_bootVisible (n : Nat) : (tick n s).bootVisible = s.bootVisible := rfl
@[simp] theorem tick_apu (n : Nat) : (tick n s).apu = s.apu := rfl
@[simp] theorem tick_timer (n : Nat) : (tick n s).timer = s.timer := rfl
@[simp] theorem tick_serial (n : Nat) : (tick n s).serial = s.serial := rfl
@[simp] theorem tick_joypad (n : Nat) : (tick n s).joypad = s.joypad := rfl
@[simp] theorem tick_dma (n : Nat) : (tick n s).dma = s.dma := rfl
@[simp] theorem tick_ppu (n : Nat) : (tick n s).ppu = s.ppu := rfl
@[simp] theorem tick_cart (n : Nat) : (tick n s).cart = s.cart := rfl
@[simp] theorem tick_shutdown (n : Nat) : (tick n s).shutdown = s.shutdown := rfl
@[simp] theorem tick_params (n : Nat) : (tick n s).params = s.params := rfl
@[simp] theorem tick_host (n : Nat) : (tick n s).host = s.host := rfl
@[simp] theorem tick_cycles (n : Nat) : (tick n s).cycles = s.cycles + n := rfl
@[simp] theorem tick_instrAddr (n : Nat) : (tick n s).instrAddr = s.instrAddr := rfl

/-! ### `requestInterrupt` -/

@[simp] theorem requestInterrupt_a (m : BitVec 5) : (requestInterrupt m s).a = s.a := rfl
@[simp] theorem requestInterrupt_f (m : BitVec 5) : (requestInterrupt m s).f = s.f := rfl
@[simp] theorem requestInterrupt_b (m : BitVec 5) : (requestInterrupt m s).b = s.b := rfl
@[simp] theorem requestInterrupt_c (m : BitVec 5) : (requestInterrupt m s).c = s.c := rfl
@[simp] theorem requestInterrupt_d (m : BitVec 5) : (requestInterrupt m s).d = s.d := rfl
@[simp] theorem requestInterrupt_e (m : BitVec 5) : (requestInterrupt m s).e = s.e := rfl
@[simp] theorem requestInterrupt_h (m : BitVec 5) : (requestInterrupt m s).h = s.h := rfl
@[simp] theorem requestInterrupt_l (m : BitVec 5) : (requestInterrupt m s).l = s.l := rfl
@[simp] theorem requestInterrupt_sp (m : BitVec 5) : (requestInterrupt m s).sp = s.sp := rfl
@[simp] theorem requestInterrupt_pc (m : BitVec 5) : (requestInterrupt m s).pc = s.pc := rfl
@[simp] theorem requestInterrupt_ime (m : BitVec 5) : (requestInterrupt m s).ime = s.ime := rfl
@[simp] theorem requestInterrupt_imeScheduled (m : BitVec 5) : (requestInterrupt m s).imeScheduled = s.imeScheduled := rfl
@[simp] theorem requestInterrupt_halted (m : BitVec 5) : (requestInterrupt m s).halted = s.halted := rfl
@[simp] theorem requestInterrupt_haltBug (m : BitVec 5) : (requestInterrupt m s).haltBug = s.haltBug := rfl
@[simp] theorem requestInterrupt_stopped (m : BitVec 5) : (requestInterrupt m s).stopped = s.stopped := rfl
@[simp] theorem requestInterrupt_ifReg (m : BitVec 5) : (requestInterrupt m s).ifReg = s.ifReg ||| m := rfl
@[simp] theorem requestInterrupt_ieReg (m : BitVec 5) : (requestInterrupt m s).ieReg = s.ieReg := rfl
@[simp] theorem requestInterrupt_fault (m : BitVec 5) : (requestInterrupt m s).fault = s.fault := rfl
@[simp] theorem requestInterrupt_wram (m : BitVec 5) : (requestInterrupt m s).wram = s.wram := rfl
@[simp] theorem requestInterrupt_hram (m : BitVec 5) : (requestInterrupt m s).hram = s.hram := rfl
@[simp] theorem requestInterrupt_bootRom (m : BitVec 5) : (requestInterrupt m s).bootRom = s.bootRom := rfl
@[simp] theorem requestInterrupt_bootVisible (m : BitVec 5) : (requestInterrupt m s).bootVisible = s.bootVisible := rfl
@[simp] theorem requestInterrupt_apu (m : BitVec 5) : (requestInterrupt m s).apu = s.apu := rfl
@[simp] theorem requestInterrupt_timer (m : BitVec 5) : (requestInterrupt m s).timer = s.timer := rfl
@[simp] theorem requestInterrupt_serial (m : BitVec 5) : (requestInterrupt m s).serial = s.serial := rfl
@[simp] theorem requestInterrupt_joypad (m : BitVec 5) : (requestInterrupt m s).joypad = s.joypad := rfl
@[simp] theorem requestInterrupt_dma (m : BitVec 5) : (requestInterrupt m s).dma = s.dma := rfl
@[simp] theorem requestInterrupt_ppu (m : BitVec 5) : (requestInterrupt m s).ppu = s.ppu := rfl
@[simp] theorem requestInterrupt_cart (m : BitVec 5) : (requestInterrupt m s).cart = s.cart := rfl
@[simp] theorem requestInterrupt_shutdown (m : BitVec 5) : (requestInterrupt m s).shutdown = s.shutdown := rfl
@[simp] theorem requestInterrupt_params (m : BitVec 5) : (requestInterrupt m s).params = s.params := rfl
@[simp] theorem requestInterrupt_host (m : BitVec 5) : (requestInterrupt m s).host = s.host := rfl
@[simp] theorem requestInterrupt_cycles (m : BitVec 5) : (requestInterrupt m s).cycles = s.cycles := rfl
@[simp] theorem requestInterrupt_instrAddr (m : BitVec 5) : (requestInterrupt m s).instrAddr = s.instrAddr := rfl

/-! ### `setFlags` -/

@[simp] theorem setFlags_a (z n h c : Bool) : (setFlags z n h c s).a = s.a := rfl
@[simp] theorem setFlags_f (z n h c : Bool) : (setFlags z n h c s).f = packFlags z n h c := rfl
@[simp] theorem setFlags_b (z n h c : Bool) : (setFlags z n h c s).b = s.b := rfl
@[simp] theorem setFlags_c (z n h c : Bool) : (setFlags z n h c s).c = s.c := rfl
@[simp] theorem setFlags_d (z n h c : Bool) : (setFlags z n h c s).d = s.d := rfl
@[simp] theorem setFlags_e (z n h c : Bool) : (setFlags z n h c s).e = s.e := rfl
@[simp] theorem setFlags_h (z n h c : Bool) : (setFlags z n h c s).h = s.h := rfl
@[simp] theorem setFlags_l (z n h c : Bool) : (setFlags z n h c s).l = s.l := rfl
@[simp] theorem setFlags_sp (z n h c : Bool) : (setFlags z n h c s).sp = s.sp := rfl
@[simp] theorem setFlags_pc (z n h c : Bool) : (setFlags z n h c s).pc = s.pc := rfl
@[simp] theorem setFlags_ime (z n h c : Bool) : (setFlags z n h c s).ime = s.ime := rfl
@[simp] theorem setFlags_imeScheduled (z n h c : Bool) : (setFlags z n h c s).imeScheduled = s.imeScheduled := rfl
@[simp] theorem setFlags_halted (z n h c : Bool) : (setFlags z n h c s).halted = s.halted := rfl
@[simp] theorem setFlags_haltBug (z n h c : Bool) : (setFlags z n h c s).haltBug = s.haltBug := rfl
@[simp] theorem setFlags_stopped (z n h c : Bool) : (setFlags z n h c s).stopped = s.stopped := rfl
@[simp] theorem setFlags_ifReg (z n h c : Bool) : (setFlags z n h c s).ifReg = s.ifReg := rfl
@[simp] theorem setFlags_ieReg (z n h c : Bool) : (setFlags z n h c s).ieReg = s.ieReg := rfl
@[simp] theorem setFlags_fault (z n h c : Bool) : (setFlags z n h c s).fault = s.fault := rfl
@[simp] theorem setFlags_wram (z n h c : Bool) : (setFlags z n h c s).wram = s.wram := rfl
@[simp] theorem setFlags_hram (z n h c : Bool) : (setFlags z n h c s).hram = s.hram := rfl
@[simp] theorem setFlags_bootRom (z n h c : Bool) : (setFlags z n h c s).bootRom = s.bootRom := rfl
@[simp] theorem setFlags_bootVisible (z n h c : Bool) : (setFlags z n h c s).bootVisible = s.bootVisible := rfl
@[simp] theorem setFlags_apu (z n h c : Bool) : (setFlags z n h c s).apu = s.apu := rfl
@[simp] theorem setFlags_timer (z n h c : Bool) : (setFlags z n h c s).timer = s.timer := rfl
@[simp] theorem setFlags_serial (z n h c : Bool) : (setFlags z n h c s).serial = s.serial := rfl
@[simp] theorem setFlags_joypad (z n h c : Bool) : (setFlags z n h c s).joypad = s.joypad := rfl
@[simp] theorem setFlags_dma (z n h c : Bool) : (setFlags z n h c s).dma = s.dma := rfl
@[simp] theorem setFlags_ppu (z n h c : Bool) : (setFlags z n h c s).ppu = s.ppu := rfl
@[simp] theorem setFlags_cart (z n h c : Bool) : (setFlags z n h c s).cart = s.cart := rfl
@[simp] theorem setFlags_shutdown (z n h c : Bool) : (setFlags z n h c s).shutdown = s.shutdown := rfl
@[simp] theorem setFlags_params (z n h c : Bool) : (setFlags z n h c s).params = s.params := rfl
@[simp] theorem setFlags_host (z n h c : Bool) : (setFlags z n h c s).host = s.host := rfl
@[simp] theorem setFlags_cycles (z n h c : Bool) : (setFlags z n h c s).cycles = s.cycles := rfl
@[simp] theorem setFlags_instrAddr (z n h c : Bool) : (setFlags z n h c s).instrAddr = s.instrAddr := rfl

/-! ### `setBc` -/

@[simp] theorem setBc_a (v : Word) : (setBc v s).a = s.a := rfl
@[simp] theorem setBc_f (v : Word) : (setBc v s).f = s.f := rfl
@[simp] theorem setBc_b (v : Word) : (setBc v s).b = hi8 v := rfl
@[simp] theorem setBc_c (v : Word) : (setBc v s).c = lo8 v := rfl
@[simp] theorem setBc_d (v : Word) : (setBc v s).d = s.d := rfl
@[simp] theorem setBc_e (v : Word) : (setBc v s).e = s.e := rfl
@[simp] theorem setBc_h (v : Word) : (setBc v s).h = s.h := rfl
@[simp] theorem setBc_l (v : Word) : (setBc v s).l = s.l := rfl
@[simp] theorem setBc_sp (v : Word) : (setBc v s).sp = s.sp := rfl
@[simp] theorem setBc_pc (v : Word) : (setBc v s).pc = s.pc := rfl
@[simp] theorem setBc_ime (v : Word) : (setBc v s).ime = s.ime := rfl
@[simp] theorem setBc_imeScheduled (v : Word) : (setBc v s).imeScheduled = s.imeScheduled := rfl
@[simp] theorem setBc_halted (v : Word) : (setBc v s).halted = s.halted := rfl
@[simp] theorem setBc_haltBug (v : Word) : (setBc v s).haltBug = s.haltBug := rfl
@[simp] theorem setBc_stopped (v : Word) : (setBc v s).stopped = s.stopped := rfl
@[simp] theorem setBc_ifReg (v : Word) : (setBc v s).ifReg = s.ifReg := rfl
@[simp] theorem setBc_ieReg (v : Word) : (setBc v s).ieReg = s.ieReg := rfl
@[simp] theorem setBc_fault (v : Word) : (setBc v s).fault = s.fault := rfl
@[simp] theorem setBc_wram (v : Word) : (setBc v s).wram = s.wram := rfl
@[simp] theorem setBc_hram (v : Word) : (setBc v s).hram = s.hram := rfl
@[simp] theorem setBc_bootRom (v : Word) : (setBc v s).bootRom = s.bootRom := rfl
@[simp] theorem setBc_bootVisible (v : Word) : (setBc v s).bootVisible = s.bootVisible := rfl
@[simp] theorem setBc_apu (v : Word) : (setBc v s).apu = s.apu := rfl
@[simp] theorem setBc_timer (v : Word) : (setBc v s).timer = s.timer := rfl
@[simp] theorem setBc_serial (v : Word) : (setBc v s).serial = s.serial := rfl
@[simp] theorem setBc_joypad (v : Word) : (setBc v s).joypad = s.joypad := rfl
@[simp] theorem setBc_dma (v : Word) : (setBc v s).dma = s.dma := rfl
@[simp] theorem setBc_ppu (v : Word) : (setBc v s).ppu = s.ppu := rfl
@[simp] theorem setBc_cart (v : Word) : (setBc v s).cart = s.cart := rfl
@[simp] theorem setBc_shutdown (v : Word) : (setBc v s).shutdown = s.shutdown := rfl
@[simp] theorem setBc_params (v : Word) : (setBc v s).params = s.params := rfl
@[simp] theorem setBc_host (v : Word) : (setBc v s).host = s.host := rfl
@[simp] theorem setBc_cycles (v : Word) : (setBc v s).cycles = s.cycles := rfl
@[simp] theorem setBc_instrAddr (v : Word) : (setBc v s).instrAddr = s.instrAddr := rfl

/-! ### `setDe` -/

@[simp] theorem setDe_a (v : Word) : (setDe v s).a = s.a := rfl
@[simp] theorem setDe_f (v : Word) : (setDe v s).f = s.f := rfl
@[simp] theorem setDe_b (v : Word) : (setDe v s).b = s.b := rfl
@[simp] theorem setDe_c (v : Word) : (setDe v s).c = s.c := rfl
@[simp] theorem setDe_d (v : Word) : (setDe v s).d = hi8 v := rfl
@[simp] theorem setDe_e (v : Word) : (setDe v s).e = lo8 v := rfl
@[simp] theorem setDe_h (v : Word) : (setDe v s).h = s.h := rfl
@[simp] theorem setDe_l (v : Word) : (setDe v s).l = s.l := rfl
@[simp] theorem setDe_sp (v : Word) : (setDe v s).sp = s.sp := rfl
@[simp] theorem setDe_pc (v : Word) : (setDe v s).pc = s.pc := rfl
@[simp] theorem setDe_ime (v : Word) : (setDe v s).ime = s.ime := rfl
@[simp] theorem setDe_imeScheduled (v : Word) : (setDe v s).imeScheduled = s.imeScheduled := rfl
@[simp] theorem setDe_halted (v : Word) : (setDe v s).halted = s.halted := rfl
@[simp] theorem setDe_haltBug (v : Word) : (setDe v s).haltBug = s.haltBug := rfl
@[simp] theorem setDe_stopped (v : Word) : (setDe v s).stopped = s.stopped := rfl
@[simp] theorem setDe_ifReg (v : Word) : (setDe v s).ifReg = s.ifReg := rfl
@[simp] theorem setDe_ieReg (v : Word) : (setDe v s).ieReg = s.ieReg := rfl
@[simp] theorem setDe_fault (v : Word) : (setDe v s).fault = s.fault := rfl
@[simp] theorem setDe_wram (v : Word) : (setDe v s).wram = s.wram := rfl
@[simp] theorem setDe_hram (v : Word) : (setDe v s).hram = s.hram := rfl
@[simp] theorem setDe_bootRom (v : Word) : (setDe v s).bootRom = s.bootRom := rfl
@[simp] theorem setDe_bootVisible (v : Word) : (setDe v s).bootVisible = s.bootVisible := rfl
@[simp] theorem setDe_apu (v : Word) : (setDe v s).apu = s.apu := rfl
@[simp] theorem setDe_timer (v : Word) : (setDe v s).timer = s.timer := rfl
@[simp] theorem setDe_serial (v : Word) : (setDe v s).serial = s.serial := rfl
@[simp] theorem setDe_joypad (v : Word) : (setDe v s).joypad = s.joypad := rfl
@[simp] theorem setDe_dma (v : Word) : (setDe v s).dma = s.dma := rfl
@[simp] theorem setDe_ppu (v : Word) : (setDe v s).ppu = s.ppu := rfl
@[simp] theorem setDe_cart (v : Word) : (setDe v s).cart = s.cart := rfl
@[simp] theorem setDe_shutdown (v : Word) : (setDe v s).shutdown = s.shutdown := rfl
@[simp] theorem setDe_params (v : Word) : (setDe v s).params = s.params := rfl
@[simp] theorem setDe_host (v : Word) : (setDe v s).host = s.host := rfl
@[simp] theorem setDe_cycles (v : Word) : (setDe v s).cycles = s.cycles := rfl
@[simp] theorem setDe_instrAddr (v : Word) : (setDe v s).instrAddr = s.instrAddr := rfl

/-! ### `setHl` -/

@[simp] theorem setHl_a (v : Word) : (setHl v s).a = s.a := rfl
@[simp] theorem setHl_f (v : Word) : (setHl v s).f = s.f := rfl
@[simp] theorem setHl_b (v : Word) : (setHl v s).b = s.b := rfl
@[simp] theorem setHl_c (v : Word) : (setHl v s).c = s.c := rfl
@[simp] theorem setHl_d (v : Word) : (setHl v s).d = s.d := rfl
@[simp] theorem setHl_e (v : Word) : (setHl v s).e = s.e := rfl
@[simp] theorem setHl_h (v : Word) : (setHl v s).h = hi8 v := rfl
@[simp] theorem setHl_l (v : Word) : (setHl v s).l = lo8 v := rfl
@[simp] theorem setHl_sp (v : Word) : (setHl v s).sp = s.sp := rfl
@[simp] theorem setHl_pc (v : Word) : (setHl v s).pc = s.pc := rfl
@[simp] theorem setHl_ime (v : Word) : (setHl v s).ime = s.ime := rfl
@[simp] theorem setHl_imeScheduled (v : Word) : (setHl v s).imeScheduled = s.imeScheduled := rfl
@[simp] theorem setHl_halted (v : Word) : (setHl v s).halted = s.halted := rfl
@[simp] theorem setHl_haltBug (v : Word) : (setHl v s).haltBug = s.haltBug := rfl
@[simp] theorem setHl_stopped (v : Word) : (setHl v s).stopped = s.stopped := rfl
@[simp] theorem setHl_ifReg (v : Word) : (setHl v s).ifReg = s.ifReg := rfl
@[simp] theorem setHl_ieReg (v : Word) : (setHl v s).ieReg = s.ieReg := rfl
@[simp] theorem setHl_fault (v : Word) : (setHl v s).fault = s.fault := rfl
@[simp] theorem setHl_wram (v : Word) : (setHl v s).wram = s.wram := rfl
@[simp] theorem setHl_hram (v : Word) : (setHl v s).hram = s.hram := rfl
@[simp] theorem setHl_bootRom (v : Word) : (setHl v s).bootRom = s.bootRom := rfl
@[simp] theorem setHl_bootVisible (v : Word) : (setHl v s).bootVisible = s.bootVisible := rfl
@[simp] theorem setHl_apu (v : Word) : (setHl v s).apu = s.apu := rfl
@[simp] theorem setHl_timer (v : Word) : (setHl v s).timer = s.timer := rfl
@[simp] theorem setHl_serial (v : Word) : (setHl v s).serial = s.serial := rfl
@[simp] theorem setHl_joypad (v : Word) : (setHl v s).joypad = s.joypad := rfl
@[simp] theorem setHl_dma (v : Word) : (setHl v s).dma = s.dma := rfl
@[simp] theorem setHl_ppu (v : Word) : (setHl v s).ppu = s.ppu := rfl
@[simp] theorem setHl_cart (v : Word) : (setHl v s).cart = s.cart := rfl
@[simp] theorem setHl_shutdown (v : Word) : (setHl v s).shutdown = s.shutdown := rfl
@[simp] theorem setHl_params (v : Word) : (setHl v s).params = s.params := rfl
@[simp] theorem setHl_host (v : Word) : (setHl v s).host = s.host := rfl
@[simp] theorem setHl_cycles (v : Word) : (setHl v s).cycles = s.cycles := rfl
@[simp] theorem setHl_instrAddr (v : Word) : (setHl v s).instrAddr = s.instrAddr := rfl

/-! ### `setAf` -/

@[simp] theorem setAf_a (v : Word) : (setAf v s).a = hi8 v := rfl
@[simp] theorem setAf_f (v : Word) : (setAf v s).f = lo8 v &&& 0xF0 := rfl
@[simp] theorem setAf_b (v : Word) : (setAf v s).b = s.b := rfl
@[simp] theorem setAf_c (v : Word) : (setAf v s).c = s.c := rfl
@[simp] theorem setAf_d (v : Word) : (setAf v s).d = s.d := rfl
@[simp] theorem setAf_e (v : Word) : (setAf v s).e = s.e := rfl
@[simp] theorem setAf_h (v : Word) : (setAf v s).h = s.h := rfl
@[simp] theorem setAf_l (v : Word) : (setAf v s).l = s.l := rfl
@[simp] theorem setAf_sp (v : Word) : (setAf v s).sp = s.sp := rfl
@[simp] theorem setAf_pc (v : Word) : (setAf v s).pc = s.pc := rfl
@[simp] theorem setAf_ime (v : Word) : (setAf v s).ime = s.ime := rfl
@[simp] theorem setAf_imeScheduled (v : Word) : (setAf v s).imeScheduled = s.imeScheduled := rfl
@[simp] theorem setAf_halted (v : Word) : (setAf v s).halted = s.halted := rfl
@[simp] theorem setAf_haltBug (v : Word) : (setAf v s).haltBug = s.haltBug := rfl
@[simp] theorem setAf_stopped (v : Word) : (setAf v s).stopped = s.stopped := rfl
@[simp] theorem setAf_ifReg (v : Word) : (setAf v s).ifReg = s.ifReg := rfl
@[simp] theorem setAf_ieReg (v : Word) : (setAf v s).ieReg = s.ieReg := rfl
@[simp] theorem setAf_fault (v : Word) : (setAf v s).fault = s.fault := rfl
@[simp] theorem setAf_wram (v : Word) : (setAf v s).wram = s.wram := rfl
@[simp] theorem setAf_hram (v : Word) : (setAf v s).hram = s.hram := rfl
@[simp] theorem setAf_bootRom (v : Word) : (setAf v s).bootRom = s.bootRom := rfl
@[simp] theorem setAf_bootVisible (v : Word) : (setAf v s).bootVisible = s.bootVisible := rfl
@[simp] theorem setAf_apu (v : Word) : (setAf v s).apu = s.apu := rfl
@[simp] theorem setAf_timer (v : Word) : (setAf v s).timer = s.timer := rfl
@[simp] theorem setAf_serial (v : Word) : (setAf v s).serial = s.serial := rfl
@[simp] theorem setAf_joypad (v : Word) : (setAf v s).joypad = s.joypad := rfl
@[simp] theorem setAf_dma (v : Word) : (setAf v s).dma = s.dma := rfl
@[simp] theorem setAf_ppu (v : Word) : (setAf v s).ppu = s.ppu := rfl
@[simp] theorem setAf_cart (v : Word) : (setAf v s).cart = s.cart := rfl
@[simp] theorem setAf_shutdown (v : Word) : (setAf v s).shutdown = s.shutdown := rfl
@[simp] theorem setAf_params (v : Word) : (setAf v s).params = s.params := rfl
@[simp] theorem setAf_host (v : Word) : (setAf v s).host = s.host := rfl
@[simp] theorem setAf_cycles (v : Word) : (setAf v s).cycles = s.cycles := rfl
@[simp] theorem setAf_instrAddr (v : Word) : (setAf v s).instrAddr = s.instrAddr := rfl

/-! ### `jumpTo` -/

@[simp] theorem jumpTo_a (v : Word) : (jumpTo v s).a = s.a := rfl
@[simp] theorem jumpTo_f (v : Word) : (jumpTo v s).f = s.f := rfl
@[simp] theorem jumpTo_b (v : Word) : (jumpTo v s).b = s.b := rfl
@[simp] theorem jumpTo_c (v : Word) : (jumpTo v s).c = s.c := rfl
@[simp] theorem jumpTo_d (v : Word) : (jumpTo v s).d = s.d := rfl
@[simp] theorem jumpTo_e (v : Word) : (jumpTo v s).e = s.e := rfl
@[simp] theorem jumpTo_h (v : Word) : (jumpTo v s).h = s.h := rfl
@[simp] theorem jumpTo_l (v : Word) : (jumpTo v s).l = s.l := rfl
@[simp] theorem jumpTo_sp (v : Word) : (jumpTo v s).sp = s.sp := rfl
@[simp] theorem jumpTo_pc (v : Word) : (jumpTo v s).pc = v := rfl
@[simp] theorem jumpTo_ime (v : Word) : (jumpTo v s).ime = s.ime := rfl
@[simp] theorem jumpTo_imeScheduled (v : Word) : (jumpTo v s).imeScheduled = s.imeScheduled := rfl
@[simp] theorem jumpTo_halted (v : Word) : (jumpTo v s).halted = s.halted := rfl
@[simp] theorem jumpTo_haltBug (v : Word) : (jumpTo v s).haltBug = s.haltBug := rfl
@[simp] theorem jumpTo_stopped (v : Word) : (jumpTo v s).stopped = s.stopped := rfl
@[simp] theorem jumpTo_ifReg (v : Word) : (jumpTo v s).ifReg = s.ifReg := rfl
@[simp] theorem jumpTo_ieReg (v : Word) : (jumpTo v s).ieReg = s.ieReg := rfl
@[simp] theorem jumpTo_fault (v : Word) : (jumpTo v s).fault = s.fault := rfl
@[simp] theorem jumpTo_wram (v : Word) : (jumpTo v s).wram = s.wram := rfl
@[simp] theorem jumpTo_hram (v : Word) : (jumpTo v s).hram = s.hram := rfl
@[simp] theorem jumpTo_bootRom (v : Word) : (jumpTo v s).bootRom = s.bootRom := rfl
@[simp] theorem jumpTo_bootVisible (v : Word) : (jumpTo v s).bootVisible = s.bootVisible := rfl
@[simp] theorem jumpTo_apu (v : Word) : (jumpTo v s).apu = s.apu := rfl
@[simp] theorem jumpTo_timer (v : Word) : (jumpTo v s).timer = s.timer := rfl
@[simp] theorem jumpTo_serial (v : Word) : (jumpTo v s).serial = s.serial := rfl
@[simp] theorem jumpTo_joypad (v : Word) : (jumpTo v s).joypad = s.joypad := rfl
@[simp] theorem jumpTo_dma (v : Word) : (jumpTo v s).dma = s.dma := rfl
@[simp] theorem jumpTo_ppu (v : Word) : (jumpTo v s).ppu = s.ppu := rfl
@[simp] theorem jumpTo_cart (v : Word) : (jumpTo v s).cart = s.cart := rfl
@[simp] theorem jumpTo_shutdown (v : Word) : (jumpTo v s).shutdown = s.shutdown := rfl
@[simp] theorem jumpTo_params (v : Word) : (jumpTo v s).params = s.params := rfl
@[simp] theorem jumpTo_host (v : Word) : (jumpTo v s).host = s.host := rfl
@[simp] theorem jumpTo_cycles (v : Word) : (jumpTo v s).cycles = s.cycles := rfl
@[simp] theorem jumpTo_instrAddr (v : Word) : (jumpTo v s).instrAddr = s.instrAddr := rfl

end Sys2Proof.Machine
end

