-- ==== Sys2Proof/Laws/Bus.lean ====
section
/-! SUPPORT. The bus said once: what a write can change, that it neither reads nor writes the CPU's own
registers, and that it keeps the memories canonical. -/

namespace Sys2Proof.Machine

/-- The state with the CPU's registers and latches of `c` and everything else of `s`. `IF` and `IE` are not
among them: they are on the bus. -/
def withCpu (c s : State) : State :=
  { s with
    a := c.a, f := c.f, b := c.b, c := c.c, d := c.d, e := c.e, h := c.h, l := c.l
    sp := c.sp, pc := c.pc, ime := c.ime, imeScheduled := c.imeScheduled, halted := c.halted
    haltBug := c.haltBug, stopped := c.stopped, fault := c.fault
    cycles := c.cycles, instrAddr := c.instrAddr }

@[simp] theorem withCpu_self (s : State) : withCpu s s = s := rfl
@[simp] theorem withCpu_withCpu (c d s : State) : withCpu c (withCpu d s) = withCpu c s := rfl
@[simp] theorem withCpu_of_withCpu (c d s : State) : withCpu (withCpu c d) s = withCpu c s := rfl

/-- A read does not see the CPU's registers. -/
@[simp] theorem busRead_withCpu (addr : Word) (c s : State) : busRead addr (withCpu c s) = busRead addr s := rfl

@[simp] theorem pending_withCpu (c s : State) : pending (withCpu c s) = pending s := rfl

theorem ite_ne {α : Type} {p : Prop} [Decidable p] {x y z : α} (hx : p → x ≠ z) (hy : ¬p → y ≠ z) :
    (if p then x else y) ≠ z := by
  by_cases h : p
  · rw [if_pos h]; exact hx h
  · rw [if_neg h]; exact hy h

/-- The index of an audio register is inside the stub's array. -/
theorem ioReg_apu {a i : Nat} (h : ioReg a = .apu i) : i < 0x30 := by
  by_contra hi
  refine absurd h ?_
  unfold ioReg
  iterate 8 refine ite_ne (fun _ => nofun) fun _ => ?_
  refine ite_ne (fun hp e => ?_) fun _ => ?_
  · injection e; omega
  · iterate 13 refine ite_ne (fun _ => nofun) fun _ => ?_
    nofun

/-- The indexes the decoder gives are inside the arrays. -/
theorem region_inRange (addr : Word) :
    match region addr with
    | .rom a => a = addr.toNat ∧ a ≤ 0x7FFF
    | .vram i => i < 0x2000
    | .extRam a => a = addr.toNat ∧ 0xA000 ≤ a ∧ a ≤ 0xBFFF
    | .wram i => i < 0x2000
    | .oam i => i < 0xA0
    | .io r => ∀ i, r = .apu i → i < 0x30
    | .hram i => i < 0x7F
    | .unused | .ie => True := by
  have hlt := addr.isLt
  unfold region
  simp only
  split_ifs with h1 h2 h3 h4 h5 h6 h7 h8 h9
  · exact ⟨rfl, h1⟩
  · simp only; omega
  · simp only [true_and]; omega
  · simp only; omega
  · simp only; omega
  · simp only; omega
  · trivial
  · exact fun i h => ioReg_apu h
  · simp only; omega
  · trivial

/-- What a bus write can do. -/
inductive BusEffect (v : Byte) (s : State) : State → Prop where
  | nothing : BusEffect v s s
  | control (a : Nat) (h : a ≤ 0x7FFF) : BusEffect v s { s with cart := s.cart.controlWrite a v }
  | vram (i : Nat) (h : i < 0x2000) (open' : vramBlocked s = false) :
      BusEffect v s { s with ppu := { s.ppu with vram := memWrite s.ppu.vram i v } }
  | extRam (a : Nat) (lo : 0xA000 ≤ a) (hi : a ≤ 0xBFFF) :
      BusEffect v s { s with cart := s.cart.ramWrite a v }
  | wram (i : Nat) (h : i < 0x2000) : BusEffect v s { s with wram := memWrite s.wram i v }
  | oam (i : Nat) (h : i < 0xA0) (open' : oamBlocked s = false) :
      BusEffect v s { s with ppu := { s.ppu with oam := memWrite s.ppu.oam i v } }
  | io (r : IoReg) (h : ∀ i, r = .apu i → i < 0x30) : BusEffect v s (ioWrite r v s)
  | hram (i : Nat) (h : i < 0x7F) : BusEffect v s { s with hram := memWrite s.hram i v }
  | ie : BusEffect v s { s with ieReg := v.extractLsb' 0 5 }

/-- Every bus write is one of them. -/
theorem busWrite_effect (addr : Word) (v : Byte) (s : State) : BusEffect v s (busWrite addr v s) := by
  have h := region_inRange addr
  unfold busWrite
  split <;> rename_i e <;> rw [e] at h
  · exact .control _ h.2
  · split
    · exact .nothing
    · rename_i hv; exact .vram _ h (by simpa using hv)
  · exact .extRam _ h.2.1 h.2.2
  · exact .wram _ h
  · split
    · exact .nothing
    · rename_i hv; exact .oam _ h (by simpa using hv)
  · exact .nothing
  · exact .io _ h
  · exact .hram _ h
  · exact .ie

theorem ioWrite_withCpu (r : IoReg) (v : Byte) (c s : State) :
    ioWrite r v (withCpu c s) = withCpu c (ioWrite r v s) := by cases r <;> rfl

/-- A write does not see the CPU's registers. -/
theorem busWrite_withCpu (addr : Word) (v : Byte) (c s : State) :
    busWrite addr v (withCpu c s) = withCpu c (busWrite addr v s) := by
  unfold busWrite
  cases region addr with
  | vram i =>
    have e : vramBlocked (withCpu c s) = vramBlocked s := rfl
    cases hb : vramBlocked s <;> simp only [e, hb] <;> rfl
  | oam i =>
    have e : oamBlocked (withCpu c s) = oamBlocked s := rfl
    cases hb : oamBlocked s <;> simp only [e, hb] <;> rfl
  | io r => exact ioWrite_withCpu r v c s
  | _ => rfl

theorem ioWrite_cpu (r : IoReg) (v : Byte) (s : State) : ioWrite r v s = withCpu s (ioWrite r v s) := by
  cases r <;> rfl

/-- A write leaves the CPU's registers as they are. -/
theorem busWrite_cpu (addr : Word) (v : Byte) (s : State) : busWrite addr v s = withCpu s (busWrite addr v s) := by
  have h := busWrite_withCpu addr v s s
  rwa [withCpu_self] at h

/-- A write leaves what is neither CPU nor device: the boot ROM, the host ports and the parameters. -/
theorem busWrite_outside (addr : Word) (v : Byte) (s : State) :
    (busWrite addr v s).bootRom = s.bootRom ∧ (busWrite addr v s).host = s.host ∧
    (busWrite addr v s).params = s.params ∧ (busWrite addr v s).shutdown = s.shutdown := by
  have e := busWrite_effect addr v s
  generalize busWrite addr v s = t at e ⊢
  cases e with
  | io r h => cases r <;> exact ⟨rfl, rfl, rfl, rfl⟩
  | _ => exact ⟨rfl, rfl, rfl, rfl⟩

section
variable (addr : Word) (v : Byte) (s : State)
@[simp] theorem busWrite_a : (busWrite addr v s).a = s.a := by rw [busWrite_cpu]; rfl
@[simp] theorem busWrite_f : (busWrite addr v s).f = s.f := by rw [busWrite_cpu]; rfl
@[simp] theorem busWrite_b : (busWrite addr v s).b = s.b := by rw [busWrite_cpu]; rfl
@[simp] theorem busWrite_c : (busWrite addr v s).c = s.c := by rw [busWrite_cpu]; rfl
@[simp] theorem busWrite_d : (busWrite addr v s).d = s.d := by rw [busWrite_cpu]; rfl
@[simp] theorem busWrite_e : (busWrite addr v s).e = s.e := by rw [busWrite_cpu]; rfl
@[simp] theorem busWrite_h : (busWrite addr v s).h = s.h := by rw [busWrite_cpu]; rfl
@[simp] theorem busWrite_l : (busWrite addr v s).l = s.l := by rw [busWrite_cpu]; rfl
@[simp] theorem busWrite_sp : (busWrite addr v s).sp = s.sp := by rw [busWrite_cpu]; rfl
@[simp] theorem busWrite_pc : (busWrite addr v s).pc = s.pc := by rw [busWrite_cpu]; rfl
@[simp] theorem busWrite_ime : (busWrite addr v s).ime = s.ime := by rw [busWrite_cpu]; rfl
@[simp] theorem busWrite_imeScheduled : (busWrite addr v s).imeScheduled = s.imeScheduled := by
  rw [busWrite_cpu]; rfl
@[simp] theorem busWrite_halted : (busWrite addr v s).halted = s.halted := by rw [busWrite_cpu]; rfl
@[simp] theorem busWrite_haltBug : (busWrite addr v s).haltBug = s.haltBug := by rw [busWrite_cpu]; rfl
@[simp] theorem busWrite_stopped : (busWrite addr v s).stopped = s.stopped := by rw [busWrite_cpu]; rfl
@[simp] theorem busWrite_fault : (busWrite addr v s).fault = s.fault := by rw [busWrite_cpu]; rfl
@[simp] theorem busWrite_cycles : (busWrite addr v s).cycles = s.cycles := by rw [busWrite_cpu]; rfl
@[simp] theorem busWrite_instrAddr : (busWrite addr v s).instrAddr = s.instrAddr := by
  rw [busWrite_cpu]; rfl
end

/-! ### The cartridge's own fields -/

/-- The MBC registers are all that a control write changes. -/
theorem controlWrite_memories (k : Cartridge) (a : Nat) (v : Byte) :
    (k.controlWrite a v).rom = k.rom ∧ (k.controlWrite a v).ram = k.ram ∧
    (k.controlWrite a v).mbc2Ram = k.mbc2Ram ∧ (k.controlWrite a v).rtc = k.rtc ∧
    (k.controlWrite a v).nrom = k.nrom ∧ (k.controlWrite a v).nram = k.nram ∧
    (k.controlWrite a v).family = k.family ∧ (k.controlWrite a v).battery = k.battery := by
  unfold Cartridge.controlWrite Cartridge.selectRom Cartridge.selectRam
  split_ifs <;> (try exact ⟨rfl, rfl, rfl, rfl, rfl, rfl, rfl, rfl⟩)
  split <;> (try exact ⟨rfl, rfl, rfl, rfl, rfl, rfl, rfl, rfl⟩)
  split <;> exact ⟨rfl, rfl, rfl, rfl, rfl, rfl, rfl, rfl⟩

/-- What an external-RAM write can do to the cartridge. -/
theorem ramWrite_cases (k : Cartridge) (a : Nat) (v : Byte) :
    k.ramWrite a v = k ∨
    k.ramWrite a v = { k with mbc2Ram := memWrite k.mbc2Ram (mbc2Cell a) (v.extractLsb' 0 4) } ∨
    (∃ r : Fin 5, k.ramWrite a v = { k with rtc := memWrite k.rtc r.val v }) ∨
    (k.nram ≠ 0 ∧ k.ramWrite a v = { k with ram := memWrite k.ram (k.ramIndex a) v }) := by
  unfold Cartridge.ramWrite Cartridge.bankedWrite
  split_ifs with h1 h2 h3
  · exact .inr (.inl rfl)
  · exact .inl rfl
  · split
    · exact .inr (.inr (.inl ⟨_, rfl⟩))
    · exact .inl rfl
  · split
    · exact .inr (.inr (.inl ⟨_, rfl⟩))
    · exact .inr (.inr (.inr ⟨fun e => h3 (.inr e), rfl⟩))

/-! ### The memories -/

/-- The PPU's register writes leave its two memories and the completed frame; the drawn frame is kept or
cleared. -/
theorem ppuWrite_memories (p : Ppu) (m : LyWriteMode) (v : Byte) :
    ((p.writeLcdc v).vram = p.vram ∧ (p.writeLcdc v).oam = p.oam ∧ (p.writeLcdc v).fbDone = p.fbDone ∧
      ((p.writeLcdc v).fbCur = p.fbCur ∨ (p.writeLcdc v).fbCur = [])) ∧
    ((Ppu.writeLy m p v).1.vram = p.vram ∧ (Ppu.writeLy m p v).1.oam = p.oam ∧
      (Ppu.writeLy m p v).1.fbDone = p.fbDone ∧ (Ppu.writeLy m p v).1.fbCur = p.fbCur) := by
  refine ⟨?_, rfl, rfl, rfl, rfl⟩
  unfold Ppu.writeLcdc
  simp only
  split_ifs <;> simp

theorem busWrite_memoriesCanonical (addr : Word) (v : Byte) {s : State} (h : MemoriesCanonical s) :
    MemoriesCanonical (busWrite addr v s) := by
  obtain ⟨hw, hh, ha, hv, ho, hc, hd, hrom, hram, hm, hr⟩ := h
  have e := busWrite_effect addr v s
  generalize busWrite addr v s = t at e ⊢
  cases e with
  | nothing => exact ⟨hw, hh, ha, hv, ho, hc, hd, hrom, hram, hm, hr⟩
  | control a h =>
    obtain ⟨e1, e2, e3, e4, -⟩ := controlWrite_memories s.cart a v
    exact ⟨hw, hh, ha, hv, ho, hc, hd, by simpa only [e1] using hrom, by simpa only [e2] using hram,
      by simpa only [e3] using hm, by simpa only [e4] using hr⟩
  | vram i h _ => exact ⟨hw, hh, ha, Memory.wf_memWrite _ _ hv, ho, hc, hd, hrom, hram, hm, hr⟩
  | extRam a _ _ =>
    rcases ramWrite_cases s.cart a v with e | e | ⟨r, e⟩ | ⟨-, e⟩ <;> simp only [MemoriesCanonical, e]
    · exact ⟨hw, hh, ha, hv, ho, hc, hd, hrom, hram, hm, hr⟩
    · exact ⟨hw, hh, ha, hv, ho, hc, hd, hrom, hram, Memory.wf_memWrite _ _ hm, hr⟩
    · exact ⟨hw, hh, ha, hv, ho, hc, hd, hrom, hram, hm, Memory.wf_memWrite _ _ hr⟩
    · exact ⟨hw, hh, ha, hv, ho, hc, hd, hrom, Memory.wf_memWrite _ _ hram, hm, hr⟩
  | wram i h => exact ⟨Memory.wf_memWrite _ _ hw, hh, ha, hv, ho, hc, hd, hrom, hram, hm, hr⟩
  | oam i h _ => exact ⟨hw, hh, ha, hv, Memory.wf_memWrite _ _ ho, hc, hd, hrom, hram, hm, hr⟩
  | hram i h => exact ⟨hw, Memory.wf_memWrite _ _ hh, ha, hv, ho, hc, hd, hrom, hram, hm, hr⟩
  | ie => exact ⟨hw, hh, ha, hv, ho, hc, hd, hrom, hram, hm, hr⟩
  | io r h =>
    cases r with
    | apu i => exact ⟨hw, hh, Memory.wf_memWrite _ _ ha, hv, ho, hc, hd, hrom, hram, hm, hr⟩
    | lcdc =>
      obtain ⟨⟨e1, e2, e3, e4⟩, -⟩ := ppuWrite_memories s.ppu .store v
      refine ⟨hw, hh, ha, ?_, ?_, ?_, ?_, hrom, hram, hm, hr⟩ <;> simp only [ioWrite]
      · rwa [e1]
      · rwa [e2]
      · rcases e4 with e4 | e4 <;> rw [e4]
        · exact hc
        · rfl
      · rwa [e3]
    | _ => exact ⟨hw, hh, ha, hv, ho, hc, hd, hrom, hram, hm, hr⟩

end Sys2Proof.Machine
end

