-- ==== Sys2Proof/Laws/Decode.lean ====
section
/-! SUPPORT. The decoder said once: a byte is one of 256, an instruction's bytes are the first `opLength` of
what the decoder is given, and the encoder writes those bytes back. -/

namespace Sys2Proof

/-- What holds of each of the 256 numerals holds of every byte. -/
theorem byte_cases {P : Byte → Prop} (h : ∀ n, n < 256 → P (BitVec.ofNat 8 n)) (b : Byte) : P b := by
  have := h b.toNat b.isLt
  rwa [BitVec.ofNat_toNat, BitVec.setWidth_eq] at this

/-- An instruction has one, two or three bytes (R174). -/
theorem opLength_cases (b0 : Byte) : opLength b0 = 1 ∨ opLength b0 = 2 ∨ opLength b0 = 3 := by
  unfold opLength
  split
  · exact .inr (.inr rfl)
  · split
    · exact .inr (.inl rfl)
    · exact .inl rfl

/-- A one-byte instruction does not depend on the bytes after it. -/
theorem decodeBytes_one {b0 : Byte} (h : opLength b0 = 1) (b1 b2 : Byte) :
    decodeBytes b0 0 0 = decodeBytes b0 b1 b2 := by
  revert h
  refine byte_cases (P := fun b0 => opLength b0 = 1 → decodeBytes b0 0 0 = decodeBytes b0 b1 b2) ?_ b0
  intro n hn
  interval_cases n <;> first | (intro h; exact absurd h (by decide)) | (intro _; rfl)

/-- A two-byte instruction does not depend on the third byte. -/
theorem decodeBytes_two {b0 : Byte} (h : opLength b0 = 2) (b1 b2 : Byte) :
    decodeBytes b0 b1 0 = decodeBytes b0 b1 b2 := by
  revert h
  refine byte_cases (P := fun b0 => opLength b0 = 2 → decodeBytes b0 b1 0 = decodeBytes b0 b1 b2) ?_ b0
  intro n hn
  interval_cases n <;> first | (intro h; exact absurd h (by decide)) | (intro _; rfl)

/-- The low byte of a little-endian word. -/
theorem extract_low (hi lo : Byte) : BitVec.extractLsb' 0 8 (hi ++ lo) = lo := by
  apply BitVec.eq_of_getLsbD_eq
  intro i h
  rw [BitVec.getLsbD_extractLsb', BitVec.getLsbD_append]
  simp [h]

/-- The high byte of a little-endian word. -/
theorem extract_high (hi lo : Byte) : BitVec.extractLsb' 8 8 (hi ++ lo) = hi := by
  apply BitVec.eq_of_getLsbD_eq
  intro i h
  rw [BitVec.getLsbD_extractLsb', BitVec.getLsbD_append]
  simp [h]

theorem encode_decodeCb (b1 : Byte) : encode (decodeCb b1) = [0xCB, b1] := by
  refine byte_cases (P := fun b1 => encode (decodeCb b1) = [0xCB, b1]) ?_ b1
  intro n hn
  interval_cases n <;> rfl

/-- The encoder writes back the bytes the decoder took, but for the prefix byte's slot. -/
theorem encode_decodeBytes (b0 b1 b2 : Byte) :
    encode (decodeBytes b0 b1 b2) = [b0, b1, b2].take (opLength b0) := by
  refine byte_cases (P := fun b0 => encode (decodeBytes b0 b1 b2) = [b0, b1, b2].take (opLength b0)) ?_ b0
  intro n hn
  have hl := extract_low b2 b1
  have hh := extract_high b2 b1
  interval_cases n <;>
    first
      | rfl
      | exact encode_decodeCb b1
      | exact congrArg₂ (fun x y => [_, x, y]) hl hh

end Sys2Proof
end

