-- ==== Sys2Proof/Laws/Ops.lean ====
section
/-! SUPPORT. The shared operations said once: the stack, the fetch, the interrupt entry, and that every
operation of the CPU changes the CPU's own registers and otherwise only stores through the bus. -/

namespace Sys2Proof.Machine

/-! ### Bus writes and updates of the CPU's registers commute -/

section
variable (addr : Word) (v : Byte) (s : State)

theorem busWrite_of_withCpu {c : State} (h : s = withCpu s c) :
    busWrite addr v s = withCpu s (busWrite addr v c) := by
  conv_lhs => rw [h]
  rw [busWrite_withCpu]

@[simp] theorem busWrite_tick (n : Nat) : busWrite addr v (tick n s) = tick n (busWrite addr v s) :=
  (busWrite_withCpu addr v (tick n s) s).trans (by rw [busWrite_cpu addr v s]; rfl)

@[simp] theorem busWrite_jumpTo (x : Word) : busWrite addr v (jumpTo x s) = jumpTo x (busWrite addr v s) :=
  (busWrite_withCpu addr v (jumpTo x s) s).trans (by rw [busWrite_cpu addr v s]; rfl)

@[simp] theorem busWrite_setHl (x : Word) : busWrite addr v (setHl x s) = setHl x (busWrite addr v s) :=
  (busWrite_withCpu addr v (setHl x s) s).trans (by rw [busWrite_cpu addr v s]; rfl)

@[simp] theorem busWrite_setFlags (z n h c : Bool) :
    busWrite addr v (setFlags z n h c s) = setFlags z n h c (busWrite addr v s) :=
  (busWrite_withCpu addr v (setFlags z n h c s) s).trans (by rw [busWrite_cpu addr v s]; rfl)

/-- SP moved before a write is SP moved after it. -/
theorem busWrite_setSp (x : Word) :
    busWrite addr v { s with sp := x } = { busWrite addr v s with sp := x } :=
  (busWrite_withCpu addr v { s with sp := x } s).trans (by rw [busWrite_cpu addr v s]; rfl)

@[simp] theorem busRead_tick (n : Nat) : busRead addr (tick n s) = busRead addr s := rfl
@[simp] theorem busRead_jumpTo (x : Word) : busRead addr (jumpTo x s) = busRead addr s := rfl
@[simp] theorem busRead_setHl (x : Word) : busRead addr (setHl x s) = busRead addr s := rfl
@[simp] theorem busRead_setFlags (z n h c : Bool) :
    busRead addr (setFlags z n h c s) = busRead addr s := rfl
end

/-! ### The stack and the fetch -/

/-- `Push16` in one line: the high byte at SP - 1, then the low byte at SP - 2. -/
theorem push16_eq (v : Word) (s : State) :
    push16 v s =
      { busWrite (s.sp - 2) (lo8 v) (busWrite (s.sp - 1) (hi8 v) s) with sp := s.sp - 2 } := by
  have h : s.sp - 1 - 1 = s.sp - 2 := by bv_omega
  unfold push16
  simp only [busWrite_setSp, h]

/-- `Push16` as claims write it. -/
theorem push16_eq_afterPush (v : Word) (s : State) : push16 v s = afterPush v s := by
  rw [push16_eq, lo8_eq, hi8_eq]
  rfl

/-- `Pop16` in one line. -/
theorem pop16_eq (s : State) :
    pop16 s = (pair (busRead (s.sp + 1) s) (busRead s.sp s), { s with sp := s.sp + 2 }) := by
  have h : s.sp + 1 + 1 = s.sp + 2 := by bv_omega
  unfold pop16
  simp only [h]
  rfl

theorem fetch8_withBug {s : State} (h : s.haltBug = true) :
    fetch8 s = (busRead s.pc s, { s with haltBug := false }) := by simp [fetch8, h]

theorem fetch8_normal {s : State} (h : s.haltBug = false) :
    fetch8 s = (busRead s.pc s, { s with pc := s.pc + 1 }) := by simp [fetch8, h]

/-- A fetch changes PC and the halt bug, nothing else. -/
theorem fetch8_cpu (s : State) : (fetch8 s).2 = withCpu (fetch8 s).2 s := by
  cases h : s.haltBug
  · rw [fetch8_normal h]; rfl
  · rw [fetch8_withBug h]; rfl

/-- Two changes of the CPU's registers are one. -/
theorem cpu_trans {s t u : State} (h : t = withCpu t s) (k : u = withCpu u t) : u = withCpu u s := by
  rw [h] at k
  exact k

theorem fetchInstr_cpu (s : State) : (fetchInstr s).2 = withCpu (fetchInstr s).2 s := by
  have h0 : { s with instrAddr := s.pc } = withCpu { s with instrAddr := s.pc } s := rfl
  have h1 := cpu_trans h0 (fetch8_cpu { s with instrAddr := s.pc })
  have h2 := cpu_trans h1 (fetch8_cpu (fetch8 { s with instrAddr := s.pc }).2)
  have h3 := cpu_trans h2 (fetch8_cpu (fetch8 (fetch8 { s with instrAddr := s.pc }).2).2)
  unfold fetchInstr
  simp only
  split
  · exact h1
  · split
    · exact h2
    · exact h3

/-! ### What the CPU's operations store -/

/-- Bytes stored through the bus, in order. -/
def storeAll (l : List (Word × Byte)) (s : State) : State := l.foldl (fun s w => busWrite w.1 w.2 s) s

theorem storeAll_withCpu (l : List (Word × Byte)) (c s : State) :
    storeAll l (withCpu c s) = withCpu c (storeAll l s) := by
  induction l generalizing s with
  | nil => rfl
  | cons w l ih => simp only [storeAll, List.foldl_cons, busWrite_withCpu] at ih ⊢; exact ih _

/-- From `s` to `t` only the CPU's registers change, and what bytes stored through the bus change. -/
def Stores (s t : State) : Prop := ∃ l, t = withCpu t (storeAll l s)

/-- The CPU's registers alone. -/
theorem Stores.of_cpu {s t : State} (h : t = withCpu t s) : Stores s t := ⟨[], h⟩

theorem Stores.busWrite (addr : Word) (v : Byte) (s : State) : Stores s (busWrite addr v s) :=
  ⟨[(addr, v)], rfl⟩

theorem Stores.trans {s t u : State} (h : Stores s t) (k : Stores t u) : Stores s u := by
  obtain ⟨l, hl⟩ := h
  obtain ⟨m, hm⟩ := k
  refine ⟨l ++ m, ?_⟩
  rw [hl, storeAll_withCpu, withCpu_withCpu] at hm
  rw [show storeAll (l ++ m) s = storeAll m (storeAll l s) by simp [storeAll]]
  exact hm

/-- A store followed by a change of the CPU's registers. -/
theorem Stores.then_cpu {s t u : State} (h : Stores s t) (k : u = withCpu u t) : Stores s u :=
  h.trans (.of_cpu k)

theorem stores_writeR8 (r : R8) (v : Byte) (s : State) : Stores s (writeR8 r v s) := by
  cases r with
  | atHl => exact .busWrite _ _ _
  | _ => exact .of_cpu rfl

theorem stores_writeRr (r : RR) (v : Word) (s : State) : Stores s (writeRr r v s) := by
  cases r <;> exact .of_cpu rfl

theorem stores_push16 (v : Word) (s : State) : Stores s (push16 v s) := by
  rw [push16_eq]
  exact ((Stores.busWrite _ _ _).trans (.busWrite _ _ _)).then_cpu rfl

theorem pop16_cpu (s : State) : (pop16 s).2 = withCpu (pop16 s).2 s := rfl

/-- A conditional transfer does one thing or the other. -/
theorem branch_cases (cc : Cond) (n m : Nat) (s t : State) :
    branch cc n m s t = tick n t ∨ branch cc n m s t = tick m s := by
  unfold branch
  split
  · exact .inl rfl
  · exact .inr rfl

theorem stores_branch {cc : Cond} {n m : Nat} {s t : State} (h : Stores s t) :
    Stores s (branch cc n m s t) := by
  rcases branch_cases cc n m s t with e | e <;> rw [e]
  · exact h.then_cpu rfl
  · exact .of_cpu rfl

/-- The interrupt entry (R421) in one line. -/
theorem takeInterrupt_eq (p : BitVec 5) (s : State) :
    takeInterrupt p s =
      tick 20 (jumpTo (vector (lowestBit p))
        (push16 s.pc
          { s with ime := false, imeScheduled := false, ifReg := s.ifReg &&& ~~~(1#5 <<< lowestBit p) })) :=
  rfl

end Sys2Proof.Machine
end

