-- ==== Sys2Proof/Laws/Exec.lean ====
section
/-! SUPPORT. The instructions by family: one case analysis over the whole table (`Instr.byFamily`), and for
each family the one meaning its rows have. A claim about all 512 rows is proved family by family. -/

namespace Sys2Proof

/-- A property of every instruction, proved family by family. -/
theorem Instr.byFamily {P : Instr → Prop}
    (ld : ∀ dst r, ¬(dst = .atHl ∧ r = .atHl) → P (.mkLd dst r)) (ldN : ∀ r n, P (.mkLdN r n))
    (alu : ∀ op r, P (.mkAlu op r)) (aluN : ∀ op n, P (.mkAluN op n))
    (inc : ∀ r, P (.mkInc r)) (dec : ∀ r, P (.mkDec r)) (acc : ∀ y, P (.mkAccRot y))
    (ldRr : ∀ rr n, P (.mkLdRr rr n)) (addHl : ∀ rr, P (.mkAddHl rr))
    (incRr : ∀ rr, P (.mkIncRr rr)) (decRr : ∀ rr, P (.mkDecRr rr))
    (push : ∀ q, P (.mkPush q)) (pop : ∀ q, P (.mkPop q))
    (jrCc : ∀ cc e, P (.mkJr cc e)) (jpCc : ∀ cc a, P (.mkJp cc a)) (callCc : ∀ cc a, P (.mkCall cc a))
    (retCc : ∀ cc, P (.mkRet cc)) (rst : ∀ y, P (.mkRst y))
    (rot : ∀ k r, P (.mkRot k r)) (bitTest : ∀ n r, P (.mkBit n r)) (res : ∀ n r, P (.mkRes n r))
    (set : ∀ n r, P (.mkSet n r))
    (nop : P .nop)
    (ldAtBcA : P .ldAtBcA)
    (ldAtA16Sp : ∀ x, P (.ldAtA16Sp x))
    (ldAAtBc : P .ldAAtBc)
    (stopN8 : ∀ x, P (.stopN8 x))
    (ldAtDeA : P .ldAtDeA)
    (jrE8 : ∀ x, P (.jrE8 x))
    (ldAAtDe : P .ldAAtDe)
    (ldAtHliA : P .ldAtHliA)
    (ldAAtHli : P .ldAAtHli)
    (ldAtHldA : P .ldAtHldA)
    (ldAAtHld : P .ldAAtHld)
    (halt : P .halt)
    (jpA16 : ∀ x, P (.jpA16 x))
    (ret : P .ret)
    (prefixCb : P .prefixCb)
    (callA16 : ∀ x, P (.callA16 x))
    (reti : P .reti)
    (ldhAtA8A : ∀ x, P (.ldhAtA8A x))
    (ldhAtCA : P .ldhAtCA)
    (addSpE8 : ∀ x, P (.addSpE8 x))
    (jpHl : P .jpHl)
    (ldAtA16A : ∀ x, P (.ldAtA16A x))
    (ldhAAtA8 : ∀ x, P (.ldhAAtA8 x))
    (ldhAAtC : P .ldhAAtC)
    (di : P .di)
    (ldHlSpE8 : ∀ x, P (.ldHlSpE8 x))
    (ldSpHl : P .ldSpHl)
    (ldAAtA16 : ∀ x, P (.ldAAtA16 x))
    (ei : P .ei)
    (illegal : ∀ i op, i.illegalOpcode = some op → P i)
    (i : Instr) : P i := by
  cases i with
  | nop => exact nop
  | ldBcN16 x => exact ldRr .bc x
  | ldAtBcA => exact ldAtBcA
  | incBc => exact incRr .bc
  | incB => exact inc .b
  | decB => exact dec .b
  | ldBN8 x => exact ldN .b x
  | rlca => exact acc 0
  | ldAtA16Sp x => exact ldAtA16Sp x
  | addHlBc => exact addHl .bc
  | ldAAtBc => exact ldAAtBc
  | decBc => exact decRr .bc
  | incC => exact inc .c
  | decC => exact dec .c
  | ldCN8 x => exact ldN .c x
  | rrca => exact acc 1
  | stopN8 x => exact stopN8 x
  | ldDeN16 x => exact ldRr .de x
  | ldAtDeA => exact ldAtDeA
  | incDe => exact incRr .de
  | incD => exact inc .d
  | decD => exact dec .d
  | ldDN8 x => exact ldN .d x
  | rla => exact acc 2
  | jrE8 x => exact jrE8 x
  | addHlDe => exact addHl .de
  | ldAAtDe => exact ldAAtDe
  | decDe => exact decRr .de
  | incE => exact inc .e
  | decE => exact dec .e
  | ldEN8 x => exact ldN .e x
  | rra => exact acc 3
  | jrNzE8 x => exact jrCc .nz x
  | ldHlN16 x => exact ldRr .hl x
  | ldAtHliA => exact ldAtHliA
  | incHl => exact incRr .hl
  | incH => exact inc .h
  | decH => exact dec .h
  | ldHN8 x => exact ldN .h x
  | daa => exact acc 4
  | jrZE8 x => exact jrCc .z x
  | addHlHl => exact addHl .hl
  | ldAAtHli => exact ldAAtHli
  | decHl => exact decRr .hl
  | incL => exact inc .l
  | decL => exact dec .l
  | ldLN8 x => exact ldN .l x
  | cpl => exact acc 5
  | jrNcE8 x => exact jrCc .nc x
  | ldSpN16 x => exact ldRr .sp x
  | ldAtHldA => exact ldAtHldA
  | incSp => exact incRr .sp
  | incAtHl => exact inc .atHl
  | decAtHl => exact dec .atHl
  | ldAtHlN8 x => exact ldN .atHl x
  | scf => exact acc 6
  | jrCE8 x => exact jrCc .c x
  | addHlSp => exact addHl .sp
  | ldAAtHld => exact ldAAtHld
  | decSp => exact decRr .sp
  | incA => exact inc .a
  | decA => exact dec .a
  | ldAN8 x => exact ldN .a x
  | ccf => exact acc 7
  | ldBB => exact ld .b .b (by decide)
  | ldBC => exact ld .b .c (by decide)
  | ldBD => exact ld .b .d (by decide)
  | ldBE => exact ld .b .e (by decide)
  | ldBH => exact ld .b .h (by decide)
  | ldBL => exact ld .b .l (by decide)
  | ldBAtHl => exact ld .b .atHl (by decide)
  | ldBA => exact ld .b .a (by decide)
  | ldCB => exact ld .c .b (by decide)
  | ldCC => exact ld .c .c (by decide)
  | ldCD => exact ld .c .d (by decide)
  | ldCE => exact ld .c .e (by decide)
  | ldCH => exact ld .c .h (by decide)
  | ldCL => exact ld .c .l (by decide)
  | ldCAtHl => exact ld .c .atHl (by decide)
  | ldCA => exact ld .c .a (by decide)
  | ldDB => exact ld .d .b (by decide)
  | ldDC => exact ld .d .c (by decide)
  | ldDD => exact ld .d .d (by decide)
  | ldDE => exact ld .d .e (by decide)
  | ldDH => exact ld .d .h (by decide)
  | ldDL => exact ld .d .l (by decide)
  | ldDAtHl => exact ld .d .atHl (by decide)
  | ldDA => exact ld .d .a (by decide)
  | ldEB => exact ld .e .b (by decide)
  | ldEC => exact ld .e .c (by decide)
  | ldED => exact ld .e .d (by decide)
  | ldEE => exact ld .e .e (by decide)
  | ldEH => exact ld .e .h (by decide)
  | ldEL => exact ld .e .l (by decide)
  | ldEAtHl => exact ld .e .atHl (by decide)
  | ldEA => exact ld .e .a (by decide)
  | ldHB => exact ld .h .b (by decide)
  | ldHC => exact ld .h .c (by decide)
  | ldHD => exact ld .h .d (by decide)
  | ldHE => exact ld .h .e (by decide)
  | ldHH => exact ld .h .h (by decide)
  | ldHL => exact ld .h .l (by decide)
  | ldHAtHl => exact ld .h .atHl (by decide)
  | ldHA => exact ld .h .a (by decide)
  | ldLB => exact ld .l .b (by decide)
  | ldLC => exact ld .l .c (by decide)
  | ldLD => exact ld .l .d (by decide)
  | ldLE => exact ld .l .e (by decide)
  | ldLH => exact ld .l .h (by decide)
  | ldLL => exact ld .l .l (by decide)
  | ldLAtHl => exact ld .l .atHl (by decide)
  | ldLA => exact ld .l .a (by decide)
  | ldAtHlB => exact ld .atHl .b (by decide)
  | ldAtHlC => exact ld .atHl .c (by decide)
  | ldAtHlD => exact ld .atHl .d (by decide)
  | ldAtHlE => exact ld .atHl .e (by decide)
  | ldAtHlH => exact ld .atHl .h (by decide)
  | ldAtHlL => exact ld .atHl .l (by decide)
  | halt => exact halt
  | ldAtHlA => exact ld .atHl .a (by decide)
  | ldAB => exact ld .a .b (by decide)
  | ldAC => exact ld .a .c (by decide)
  | ldAD => exact ld .a .d (by decide)
  | ldAE => exact ld .a .e (by decide)
  | ldAH => exact ld .a .h (by decide)
  | ldAL => exact ld .a .l (by decide)
  | ldAAtHl => exact ld .a .atHl (by decide)
  | ldAA => exact ld .a .a (by decide)
  | addAB => exact alu .add .b
  | addAC => exact alu .add .c
  | addAD => exact alu .add .d
  | addAE => exact alu .add .e
  | addAH => exact alu .add .h
  | addAL => exact alu .add .l
  | addAAtHl => exact alu .add .atHl
  | addAA => exact alu .add .a
  | adcAB => exact alu .adc .b
  | adcAC => exact alu .adc .c
  | adcAD => exact alu .adc .d
  | adcAE => exact alu .adc .e
  | adcAH => exact alu .adc .h
  | adcAL => exact alu .adc .l
  | adcAAtHl => exact alu .adc .atHl
  | adcAA => exact alu .adc .a
  | subAB => exact alu .sub .b
  | subAC => exact alu .sub .c
  | subAD => exact alu .sub .d
  | subAE => exact alu .sub .e
  | subAH => exact alu .sub .h
  | subAL => exact alu .sub .l
  | subAAtHl => exact alu .sub .atHl
  | subAA => exact alu .sub .a
  | sbcAB => exact alu .sbc .b
  | sbcAC => exact alu .sbc .c
  | sbcAD => exact alu .sbc .d
  | sbcAE => exact alu .sbc .e
  | sbcAH => exact alu .sbc .h
  | sbcAL => exact alu .sbc .l
  | sbcAAtHl => exact alu .sbc .atHl
  | sbcAA => exact alu .sbc .a
  | andAB => exact alu .and .b
  | andAC => exact alu .and .c
  | andAD => exact alu .and .d
  | andAE => exact alu .and .e
  | andAH => exact alu .and .h
  | andAL => exact alu .and .l
  | andAAtHl => exact alu .and .atHl
  | andAA => exact alu .and .a
  | xorAB => exact alu .xor .b
  | xorAC => exact alu .xor .c
  | xorAD => exact alu .xor .d
  | xorAE => exact alu .xor .e
  | xorAH => exact alu .xor .h
  | xorAL => exact alu .xor .l
  | xorAAtHl => exact alu .xor .atHl
  | xorAA => exact alu .xor .a
  | orAB => exact alu .or .b
  | orAC => exact alu .or .c
  | orAD => exact alu .or .d
  | orAE => exact alu .or .e
  | orAH => exact alu .or .h
  | orAL => exact alu .or .l
  | orAAtHl => exact alu .or .atHl
  | orAA => exact alu .or .a
  | cpAB => exact alu .cp .b
  | cpAC => exact alu .cp .c
  | cpAD => exact alu .cp .d
  | cpAE => exact alu .cp .e
  | cpAH => exact alu .cp .h
  | cpAL => exact alu .cp .l
  | cpAAtHl => exact alu .cp .atHl
  | cpAA => exact alu .cp .a
  | retNz => exact retCc .nz
  | popBc => exact pop .bc
  | jpNzA16 x => exact jpCc .nz x
  | jpA16 x => exact jpA16 x
  | callNzA16 x => exact callCc .nz x
  | pushBc => exact push .bc
  | addAN8 x => exact aluN .add x
  | rst00 => exact rst 0
  | retZ => exact retCc .z
  | ret => exact ret
  | jpZA16 x => exact jpCc .z x
  | prefixCb => exact prefixCb
  | callZA16 x => exact callCc .z x
  | callA16 x => exact callA16 x
  | adcAN8 x => exact aluN .adc x
  | rst08 => exact rst 1
  | retNc => exact retCc .nc
  | popDe => exact pop .de
  | jpNcA16 x => exact jpCc .nc x
  | illegalD3 => exact illegal _ _ rfl
  | callNcA16 x => exact callCc .nc x
  | pushDe => exact push .de
  | subAN8 x => exact aluN .sub x
  | rst10 => exact rst 2
  | retC => exact retCc .c
  | reti => exact reti
  | jpCA16 x => exact jpCc .c x
  | illegalDB => exact illegal _ _ rfl
  | callCA16 x => exact callCc .c x
  | illegalDD => exact illegal _ _ rfl
  | sbcAN8 x => exact aluN .sbc x
  | rst18 => exact rst 3
  | ldhAtA8A x => exact ldhAtA8A x
  | popHl => exact pop .hl
  | ldhAtCA => exact ldhAtCA
  | illegalE3 => exact illegal _ _ rfl
  | illegalE4 => exact illegal _ _ rfl
  | pushHl => exact push .hl
  | andAN8 x => exact aluN .and x
  | rst20 => exact rst 4
  | addSpE8 x => exact addSpE8 x
  | jpHl => exact jpHl
  | ldAtA16A x => exact ldAtA16A x
  | illegalEB => exact illegal _ _ rfl
  | illegalEC => exact illegal _ _ rfl
  | illegalED => exact illegal _ _ rfl
  | xorAN8 x => exact aluN .xor x
  | rst28 => exact rst 5
  | ldhAAtA8 x => exact ldhAAtA8 x
  | popAf => exact pop .af
  | ldhAAtC => exact ldhAAtC
  | di => exact di
  | illegalF4 => exact illegal _ _ rfl
  | pushAf => exact push .af
  | orAN8 x => exact aluN .or x
  | rst30 => exact rst 6
  | ldHlSpE8 x => exact ldHlSpE8 x
  | ldSpHl => exact ldSpHl
  | ldAAtA16 x => exact ldAAtA16 x
  | ei => exact ei
  | illegalFC => exact illegal _ _ rfl
  | illegalFD => exact illegal _ _ rfl
  | cpAN8 x => exact aluN .cp x
  | rst38 => exact rst 7
  | rlcB => exact rot .rlc .b
  | rlcC => exact rot .rlc .c
  | rlcD => exact rot .rlc .d
  | rlcE => exact rot .rlc .e
  | rlcH => exact rot .rlc .h
  | rlcL => exact rot .rlc .l
  | rlcAtHl => exact rot .rlc .atHl
  | rlcA => exact rot .rlc .a
  | rrcB => exact rot .rrc .b
  | rrcC => exact rot .rrc .c
  | rrcD => exact rot .rrc .d
  | rrcE => exact rot .rrc .e
  | rrcH => exact rot .rrc .h
  | rrcL => exact rot .rrc .l
  | rrcAtHl => exact rot .rrc .atHl
  | rrcA => exact rot .rrc .a
  | rlB => exact rot .rl .b
  | rlC => exact rot .rl .c
  | rlD => exact rot .rl .d
  | rlE => exact rot .rl .e
  | rlH => exact rot .rl .h
  | rlL => exact rot .rl .l
  | rlAtHl => exact rot .rl .atHl
  | rlA => exact rot .rl .a
  | rrB => exact rot .rr .b
  | rrC => exact rot .rr .c
  | rrD => exact rot .rr .d
  | rrE => exact rot .rr .e
  | rrH => exact rot .rr .h
  | rrL => exact rot .rr .l
  | rrAtHl => exact rot .rr .atHl
  | rrA => exact rot .rr .a
  | slaB => exact rot .sla .b
  | slaC => exact rot .sla .c
  | slaD => exact rot .sla .d
  | slaE => exact rot .sla .e
  | slaH => exact rot .sla .h
  | slaL => exact rot .sla .l
  | slaAtHl => exact rot .sla .atHl
  | slaA => exact rot .sla .a
  | sraB => exact rot .sra .b
  | sraC => exact rot .sra .c
  | sraD => exact rot .sra .d
  | sraE => exact rot .sra .e
  | sraH => exact rot .sra .h
  | sraL => exact rot .sra .l
  | sraAtHl => exact rot .sra .atHl
  | sraA => exact rot .sra .a
  | swapB => exact rot .swap .b
  | swapC => exact rot .swap .c
  | swapD => exact rot .swap .d
  | swapE => exact rot .swap .e
  | swapH => exact rot .swap .h
  | swapL => exact rot .swap .l
  | swapAtHl => exact rot .swap .atHl
  | swapA => exact rot .swap .a
  | srlB => exact rot .srl .b
  | srlC => exact rot .srl .c
  | srlD => exact rot .srl .d
  | srlE => exact rot .srl .e
  | srlH => exact rot .srl .h
  | srlL => exact rot .srl .l
  | srlAtHl => exact rot .srl .atHl
  | srlA => exact rot .srl .a
  | bit0B => exact bitTest 0 .b
  | bit0C => exact bitTest 0 .c
  | bit0D => exact bitTest 0 .d
  | bit0E => exact bitTest 0 .e
  | bit0H => exact bitTest 0 .h
  | bit0L => exact bitTest 0 .l
  | bit0AtHl => exact bitTest 0 .atHl
  | bit0A => exact bitTest 0 .a
  | bit1B => exact bitTest 1 .b
  | bit1C => exact bitTest 1 .c
  | bit1D => exact bitTest 1 .d
  | bit1E => exact bitTest 1 .e
  | bit1H => exact bitTest 1 .h
  | bit1L => exact bitTest 1 .l
  | bit1AtHl => exact bitTest 1 .atHl
  | bit1A => exact bitTest 1 .a
  | bit2B => exact bitTest 2 .b
  | bit2C => exact bitTest 2 .c
  | bit2D => exact bitTest 2 .d
  | bit2E => exact bitTest 2 .e
  | bit2H => exact bitTest 2 .h
  | bit2L => exact bitTest 2 .l
  | bit2AtHl => exact bitTest 2 .atHl
  | bit2A => exact bitTest 2 .a
  | bit3B => exact bitTest 3 .b
  | bit3C => exact bitTest 3 .c
  | bit3D => exact bitTest 3 .d
  | bit3E => exact bitTest 3 .e
  | bit3H => exact bitTest 3 .h
  | bit3L => exact bitTest 3 .l
  | bit3AtHl => exact bitTest 3 .atHl
  | bit3A => exact bitTest 3 .a
  | bit4B => exact bitTest 4 .b
  | bit4C => exact bitTest 4 .c
  | bit4D => exact bitTest 4 .d
  | bit4E => exact bitTest 4 .e
  | bit4H => exact bitTest 4 .h
  | bit4L => exact bitTest 4 .l
  | bit4AtHl => exact bitTest 4 .atHl
  | bit4A => exact bitTest 4 .a
  | bit5B => exact bitTest 5 .b
  | bit5C => exact bitTest 5 .c
  | bit5D => exact bitTest 5 .d
  | bit5E => exact bitTest 5 .e
  | bit5H => exact bitTest 5 .h
  | bit5L => exact bitTest 5 .l
  | bit5AtHl => exact bitTest 5 .atHl
  | bit5A => exact bitTest 5 .a
  | bit6B => exact bitTest 6 .b
  | bit6C => exact bitTest 6 .c
  | bit6D => exact bitTest 6 .d
  | bit6E => exact bitTest 6 .e
  | bit6H => exact bitTest 6 .h
  | bit6L => exact bitTest 6 .l
  | bit6AtHl => exact bitTest 6 .atHl
  | bit6A => exact bitTest 6 .a
  | bit7B => exact bitTest 7 .b
  | bit7C => exact bitTest 7 .c
  | bit7D => exact bitTest 7 .d
  | bit7E => exact bitTest 7 .e
  | bit7H => exact bitTest 7 .h
  | bit7L => exact bitTest 7 .l
  | bit7AtHl => exact bitTest 7 .atHl
  | bit7A => exact bitTest 7 .a
  | res0B => exact res 0 .b
  | res0C => exact res 0 .c
  | res0D => exact res 0 .d
  | res0E => exact res 0 .e
  | res0H => exact res 0 .h
  | res0L => exact res 0 .l
  | res0AtHl => exact res 0 .atHl
  | res0A => exact res 0 .a
  | res1B => exact res 1 .b
  | res1C => exact res 1 .c
  | res1D => exact res 1 .d
  | res1E => exact res 1 .e
  | res1H => exact res 1 .h
  | res1L => exact res 1 .l
  | res1AtHl => exact res 1 .atHl
  | res1A => exact res 1 .a
  | res2B => exact res 2 .b
  | res2C => exact res 2 .c
  | res2D => exact res 2 .d
  | res2E => exact res 2 .e
  | res2H => exact res 2 .h
  | res2L => exact res 2 .l
  | res2AtHl => exact res 2 .atHl
  | res2A => exact res 2 .a
  | res3B => exact res 3 .b
  | res3C => exact res 3 .c
  | res3D => exact res 3 .d
  | res3E => exact res 3 .e
  | res3H => exact res 3 .h
  | res3L => exact res 3 .l
  | res3AtHl => exact res 3 .atHl
  | res3A => exact res 3 .a
  | res4B => exact res 4 .b
  | res4C => exact res 4 .c
  | res4D => exact res 4 .d
  | res4E => exact res 4 .e
  | res4H => exact res 4 .h
  | res4L => exact res 4 .l
  | res4AtHl => exact res 4 .atHl
  | res4A => exact res 4 .a
  | res5B => exact res 5 .b
  | res5C => exact res 5 .c
  | res5D => exact res 5 .d
  | res5E => exact res 5 .e
  | res5H => exact res 5 .h
  | res5L => exact res 5 .l
  | res5AtHl => exact res 5 .atHl
  | res5A => exact res 5 .a
  | res6B => exact res 6 .b
  | res6C => exact res 6 .c
  | res6D => exact res 6 .d
  | res6E => exact res 6 .e
  | res6H => exact res 6 .h
  | res6L => exact res 6 .l
  | res6AtHl => exact res 6 .atHl
  | res6A => exact res 6 .a
  | res7B => exact res 7 .b
  | res7C => exact res 7 .c
  | res7D => exact res 7 .d
  | res7E => exact res 7 .e
  | res7H => exact res 7 .h
  | res7L => exact res 7 .l
  | res7AtHl => exact res 7 .atHl
  | res7A => exact res 7 .a
  | set0B => exact set 0 .b
  | set0C => exact set 0 .c
  | set0D => exact set 0 .d
  | set0E => exact set 0 .e
  | set0H => exact set 0 .h
  | set0L => exact set 0 .l
  | set0AtHl => exact set 0 .atHl
  | set0A => exact set 0 .a
  | set1B => exact set 1 .b
  | set1C => exact set 1 .c
  | set1D => exact set 1 .d
  | set1E => exact set 1 .e
  | set1H => exact set 1 .h
  | set1L => exact set 1 .l
  | set1AtHl => exact set 1 .atHl
  | set1A => exact set 1 .a
  | set2B => exact set 2 .b
  | set2C => exact set 2 .c
  | set2D => exact set 2 .d
  | set2E => exact set 2 .e
  | set2H => exact set 2 .h
  | set2L => exact set 2 .l
  | set2AtHl => exact set 2 .atHl
  | set2A => exact set 2 .a
  | set3B => exact set 3 .b
  | set3C => exact set 3 .c
  | set3D => exact set 3 .d
  | set3E => exact set 3 .e
  | set3H => exact set 3 .h
  | set3L => exact set 3 .l
  | set3AtHl => exact set 3 .atHl
  | set3A => exact set 3 .a
  | set4B => exact set 4 .b
  | set4C => exact set 4 .c
  | set4D => exact set 4 .d
  | set4E => exact set 4 .e
  | set4H => exact set 4 .h
  | set4L => exact set 4 .l
  | set4AtHl => exact set 4 .atHl
  | set4A => exact set 4 .a
  | set5B => exact set 5 .b
  | set5C => exact set 5 .c
  | set5D => exact set 5 .d
  | set5E => exact set 5 .e
  | set5H => exact set 5 .h
  | set5L => exact set 5 .l
  | set5AtHl => exact set 5 .atHl
  | set5A => exact set 5 .a
  | set6B => exact set 6 .b
  | set6C => exact set 6 .c
  | set6D => exact set 6 .d
  | set6E => exact set 6 .e
  | set6H => exact set 6 .h
  | set6L => exact set 6 .l
  | set6AtHl => exact set 6 .atHl
  | set6A => exact set 6 .a
  | set7B => exact set 7 .b
  | set7C => exact set 7 .c
  | set7D => exact set 7 .d
  | set7E => exact set 7 .e
  | set7H => exact set 7 .h
  | set7L => exact set 7 .l
  | set7AtHl => exact set 7 .atHl
  | set7A => exact set 7 .a

end Sys2Proof

namespace Sys2Proof.Machine

/-- The T-cycles of a form on `r`: `m` on the byte at HL, else `n`. -/
def onR8 (r : R8) (n m : Nat) : Nat := if r = .atHl then m else n

section
variable (s : State)

theorem exec_mkLd (dst r : R8) (h : ¬(dst = .atHl ∧ r = .atHl)) :
    exec (.mkLd dst r) s =
      .next (tick (if dst = .atHl ∨ r = .atHl then 8 else 4) (copyR8 dst r s)) := by
  cases dst <;> cases r <;> first | rfl | exact absurd ⟨rfl, rfl⟩ h

theorem exec_mkLdN (r : R8) (n : Byte) :
    exec (.mkLdN r n) s = .next (tick (onR8 r 8 12) (writeR8 r n s)) := by cases r <;> rfl

theorem exec_mkAlu (op : AluOp) (r : R8) :
    exec (.mkAlu op r) s = .next (tick (onR8 r 4 8) (alu op (readR8 r s) s)) := by
  cases op <;> cases r <;> rfl

theorem exec_mkAluN (op : AluOp) (n : Byte) :
    exec (.mkAluN op n) s = .next (tick 8 (alu op n s)) := by cases op <;> rfl

theorem exec_mkInc (r : R8) : exec (.mkInc r) s = .next (tick (onR8 r 4 12) (incR8 r s)) := by
  cases r <;> rfl

theorem exec_mkDec (r : R8) : exec (.mkDec r) s = .next (tick (onR8 r 4 12) (decR8 r s)) := by
  cases r <;> rfl

/-- RLCA, RRCA, RLA, RRA, DAA, CPL, SCF, CCF. -/
def accOp (y : Fin 8) (s : State) : State :=
  match y with
  | 0 => rotateA .rlc s
  | 1 => rotateA .rrc s
  | 2 => rotateA .rl s
  | 3 => rotateA .rr s
  | 4 => decimalAdjust s
  | 5 => setFlags (flagZ s) true true (flagC s) { s with a := ~~~s.a }
  | 6 => setFlags (flagZ s) false false true s
  | 7 => setFlags (flagZ s) false false (!flagC s) s

theorem exec_mkAccRot (y : Fin 8) : exec (.mkAccRot y) s = .next (tick 4 (accOp y s)) := by
  match y with
  | 0 | 1 | 2 | 3 | 4 | 5 | 6 | 7 => rfl

theorem exec_mkLdRr (rr : RR) (n : Word) :
    exec (.mkLdRr rr n) s = .next (tick 12 (writeRr rr n s)) := by cases rr <;> rfl

theorem exec_mkAddHl (rr : RR) :
    exec (.mkAddHl rr) s = .next (tick 8 (addHl (readRr rr s) s)) := by cases rr <;> rfl

theorem exec_mkIncRr (rr : RR) : exec (.mkIncRr rr) s = .next (tick 8 (addRr rr 1 s)) := by
  cases rr <;> rfl

theorem exec_mkDecRr (rr : RR) : exec (.mkDecRr rr) s = .next (tick 8 (addRr rr (-1) s)) := by
  cases rr <;> rfl

theorem exec_mkPush (q : QQ) : exec (.mkPush q) s = .next (tick 16 (pushQq q s)) := by cases q <;> rfl

theorem exec_mkPop (q : QQ) : exec (.mkPop q) s = .next (tick 12 (popQq q s)) := by cases q <;> rfl

theorem exec_mkJr (cc : Cond) (e : Byte) :
    exec (.mkJr cc e) s = .next (branch cc 12 8 s (jumpRelative e s)) := by cases cc <;> rfl

theorem exec_mkJp (cc : Cond) (a : Word) :
    exec (.mkJp cc a) s = .next (branch cc 16 12 s (jumpTo a s)) := by cases cc <;> rfl

theorem exec_mkCall (cc : Cond) (a : Word) :
    exec (.mkCall cc a) s = .next (branch cc 24 12 s (callTo a s)) := by cases cc <;> rfl

theorem exec_mkRet (cc : Cond) :
    exec (.mkRet cc) s = .next (branch cc 20 8 s (returnTo s)) := by cases cc <;> rfl

theorem exec_mkRst (y : Fin 8) :
    exec (.mkRst y) s = .next (tick 16 (callTo (BitVec.ofNat 16 (8 * y.val)) s)) := by
  match y with
  | 0 | 1 | 2 | 3 | 4 | 5 | 6 | 7 => rfl

theorem exec_mkRot (k : RotOp) (r : R8) :
    exec (.mkRot k r) s = .next (tick (onR8 r 8 16) (rotateR8 k r s)) := by cases k <;> cases r <;> rfl

theorem exec_mkBit (n : Fin 8) (r : R8) :
    exec (.mkBit n r) s = .next (tick (onR8 r 8 12) (testBit n.val r s)) := by
  match n with
  | 0 | 1 | 2 | 3 | 4 | 5 | 6 | 7 => cases r <;> rfl

theorem exec_mkRes (n : Fin 8) (r : R8) :
    exec (.mkRes n r) s = .next (tick (onR8 r 8 16) (resetBit n.val r s)) := by
  match n with
  | 0 | 1 | 2 | 3 | 4 | 5 | 6 | 7 => cases r <;> rfl

theorem exec_mkSet (n : Fin 8) (r : R8) :
    exec (.mkSet n r) s = .next (tick (onR8 r 8 16) (setBit n.val r s)) := by
  match n with
  | 0 | 1 | 2 | 3 | 4 | 5 | 6 | 7 => cases r <;> rfl

theorem exec_illegal {i : Instr} {op : Byte} (h : i.illegalOpcode = some op) :
    exec i s = .next (takeDecodeError op s) := by
  cases i <;> first | (injection h with h; subst h; rfl) | cases h

end

end Sys2Proof.Machine
end

