-- ==== Sys2Proof/Laws/Ppu.lean ====
section
/-! SUPPORT. The PPU said once: what a dot leaves alone, and that a dot keeps the PPU's internal state in
range. -/

namespace Sys2Proof.Machine

/-! ### What a dot leaves alone -/

/-- The registers a program writes and the two memories are the same; a drawn pixel goes inside the frame,
and a completed frame is the one being drawn. -/
structure PpuKeeps (p q : Ppu) : Prop where
  lcdc : q.lcdc = p.lcdc
  statSel : q.statSel = p.statSel
  lyc : q.lyc = p.lyc
  vram : q.vram = p.vram
  oam : q.oam = p.oam

theorem PpuKeeps.refl (p : Ppu) : PpuKeeps p p := ⟨rfl, rfl, rfl, rfl, rfl⟩

theorem PpuKeeps.trans {p q r : Ppu} (h : PpuKeeps p q) (k : PpuKeeps q r) : PpuKeeps p r :=
  ⟨k.lcdc.trans h.lcdc, k.statSel.trans h.statSel, k.lyc.trans h.lyc, k.vram.trans h.vram, k.oam.trans h.oam⟩

theorem fetcherDot_keeps (p : Ppu) : PpuKeeps p p.fetcherDot := by
  unfold Ppu.fetcherDot
  split <;> (try exact ⟨rfl, rfl, rfl, rfl, rfl⟩)
  split <;> exact ⟨rfl, rfl, rfl, rfl, rfl⟩

theorem outputDot_keeps (p : Ppu) : PpuKeeps p p.outputDot := by
  unfold Ppu.outputDot
  split
  · exact .refl p
  · simp only
    split <;> exact ⟨rfl, rfl, rfl, rfl, rfl⟩

theorem drawDot_keeps (d : Nat) (p : Ppu) : PpuKeeps p (p.drawDot d) := by
  unfold Ppu.drawDot
  split
  · exact ⟨rfl, rfl, rfl, rfl, rfl⟩
  · split
    · exact ⟨rfl, rfl, rfl, rfl, rfl⟩
    · split
      · exact ⟨rfl, rfl, rfl, rfl, rfl⟩
      · exact (fetcherDot_keeps p).trans (outputDot_keeps _)

theorem endLine_keeps (p : Ppu) : PpuKeeps p p.endLine.1 := by
  unfold Ppu.endLine
  split <;> exact ⟨rfl, rfl, rfl, rfl, rfl⟩

theorem vblankLine_keeps (p : Ppu) : PpuKeeps p p.vblankLine.1 := by
  unfold Ppu.vblankLine
  split <;> exact ⟨rfl, rfl, rfl, rfl, rfl⟩

theorem dot_keeps (d : Nat) (p : Ppu) : PpuKeeps p (Ppu.dot d p).1 := by
  have h0 : PpuKeeps p { p with lineCycles := p.lineCycles + 1 } := ⟨rfl, rfl, rfl, rfl, rfl⟩
  unfold Ppu.dot
  simp only
  split
  · split <;> exact ⟨rfl, rfl, rfl, rfl, rfl⟩
  · have h1 := h0.trans (drawDot_keeps d _)
    split
    · exact h1.trans ⟨rfl, rfl, rfl, rfl, rfl⟩
    · exact h1
  · split
    · exact PpuKeeps.trans (q := { p with lineCycles := 0 }) ⟨rfl, rfl, rfl, rfl, rfl⟩ (endLine_keeps _)
    · exact h0
  · split
    · exact PpuKeeps.trans (q := { p with lineCycles := 0 }) ⟨rfl, rfl, rfl, rfl, rfl⟩ (vblankLine_keeps _)
    · exact h0

/-- What every dot keeps, a PPU step keeps. -/
theorem ppuStep_induct {P : Ppu → Prop} (d c : Nat) (dot : ∀ p, P p → P (Ppu.dot d p).1) {p : Ppu}
    (h : P p) : P (ppuStep d c p).1 := by
  have dots : ∀ n p, P p → P (Ppu.dots d n p).1 := by
    intro n
    induction n with
    | zero => exact fun p h => h
    | succ n ih => exact fun p h => ih _ (dot p h)
  unfold ppuStep
  split
  · exact dots c p h
  · exact h

theorem ppuStep_keeps (d c : Nat) (p : Ppu) : PpuKeeps p (ppuStep d c p).1 :=
  ppuStep_induct (P := PpuKeeps p) d c (fun q h => h.trans (dot_keeps d q)) (.refl p)

/-- While the LCD is off a PPU step does nothing (R500). -/
theorem ppuStep_off {p : Ppu} (h : p.lcdOn = false) (d c : Nat) : ppuStep d c p = (p, 0) := by
  simp [ppuStep, h]

/-! ### The ranges -/

theorem insertSprite_length (s : Sprite) (l : List Sprite) : (insertSprite s l).length = l.length + 1 := by
  induction l with
  | nil => rfl
  | cons t ts ih =>
    unfold insertSprite
    split
    · rfl
    · simp [ih]

theorem sortSprites_length (l : List Sprite) : (sortSprites l).length = l.length := by
  suffices h : ∀ l acc : List Sprite, (l.foldl (fun acc s => insertSprite s acc) acc).length = acc.length + l.length by
    simpa [sortSprites] using h l []
  intro l
  induction l with
  | nil => exact fun _ => rfl
  | cons s l ih => exact fun acc => by simp [ih, insertSprite_length]; omega

/-- At most ten sprites are on a line (R502). -/
theorem oamScan_length (p : Ppu) : p.oamScan.length ≤ 10 := by
  unfold Ppu.oamScan
  rw [sortSprites_length, List.length_take]
  omega

theorem mergePixel_length {fifo : List Pixel} {slot : Nat} (px : Pixel) (h : fifo.length ≤ 8) (hs : slot < 8) :
    (mergePixel fifo slot px).length ≤ 8 := by
  have : (fillFifo fifo slot).length ≤ 8 := by simp [fillFifo]; omega
  unfold mergePixel
  simp only
  split <;> simpa

/-- A sprite merges into the eight slots of the object FIFO when its X is due (R504, R505). -/
theorem mergeSprite_length {p : Ppu} {s : Sprite} (h : p.objFifo.length ≤ 8) (hs : s.x.toNat ≤ p.pushedX + 8) :
    (p.mergeSprite s).objFifo.length ≤ 8 := by
  have fold : ∀ (f : List Pixel → Nat → List Pixel) (l : List Nat),
      (∀ fifo j, j ∈ l → fifo.length ≤ 8 → (f fifo j).length ≤ 8) →
      ∀ fifo, fifo.length ≤ 8 → (l.foldl f fifo).length ≤ 8 := by
    intro f l
    induction l with
    | nil => exact fun _ _ h => h
    | cons j l ih =>
      exact fun hf fifo h => ih (fun fifo k hk => hf fifo k (.tail _ hk)) _ (hf fifo j (.head _) h)
  unfold Ppu.mergeSprite
  simp only
  refine fold _ (List.range 8) (fun fifo j hj hf => ?_) _ h
  have hj8 := List.mem_range.1 hj
  split
  · exact hf
  · exact mergePixel_length _ hf (by omega)

/-- The ranges a dot keeps inside DRAW, before the mode may change. -/
theorem fetcherDot_inRange {p : Ppu} (h : PpuInRange p) : PpuInRange p.fetcherDot := by
  obtain ⟨h1, h2, h3, h4, h5, h6, h7, h8, h9, h10, h11⟩ := h
  unfold Ppu.fetcherDot
  split <;> (try exact ⟨h1, h2, h3, h4, h5, h6, h7, h8, h9, h10, h11⟩)
  · refine ⟨h1, h2, h3, h4, ?_, h6, h7, h8, h9, h10, h11⟩
    simp only [Ppu.tileNumber]
    split <;> exact Nat.mod_lt _ (by decide)
  · split
    · exact ⟨h1, h2, by simp [Ppu.pushTile], h4, h5, h6, h7, h8, h9, h10, h11⟩
    · exact ⟨h1, h2, h3, h4, h5, h6, h7, h8, h9, h10, h11⟩

/-- A pixel that can be output lands inside the frame. -/
theorem outputDot_inRange {p : Ppu} (h : PpuInRange p) (hx : p.pushedX < 160) :
    PpuInRange { p.outputDot with mode := .hblank } := by
  obtain ⟨h1, h2, h3, h4, h5, h6, -, h8, h9, h10, h11⟩ := h
  unfold Ppu.outputDot
  split
  · exact ⟨h1, h2, h3, h4, h5, h6, nofun, h8, h9, h10, h11⟩
  · rename_i bg rest e
    have h3' : rest.length ≤ 8 := by rw [e] at h3; simp at h3; omega
    simp only
    split
    · exact ⟨h1, h2, h3', h4, h5, h6, nofun, Nat.lt_of_le_of_lt (Nat.sub_le _ _) h8, h9, h10, h11⟩
    · refine ⟨h1, h2, h3', ?_, h5, hx, nofun, h8, h9, ?_, h11⟩
      · simp only [List.length_tail]; omega
      · simp only
        split
        · exact Memory.within_memWrite _ (by omega) h10
        · exact h10

/-- What a DRAW dot keeps, whatever the mode is after it. -/
theorem drawDot_inRange (d : Nat) {p : Ppu} (h : PpuInRange p) (hx : p.pushedX < 160) :
    PpuInRange { p.drawDot d with mode := .hblank } := by
  have h' := h
  obtain ⟨h1, h2, h3, h4, h5, h6, -, h8, h9, h10, h11⟩ := h'
  unfold Ppu.drawDot
  split
  · exact ⟨h1, h2, h3, h4, h5, h6, nofun, h8, h9, h10, h11⟩
  · split
    · rename_i s e
      have hd : p.nextSprite < p.sprites.length ∧ s.x.toNat ≤ p.pushedX + 8 := by
        unfold Ppu.dueSprite at e
        split at e
        · rename_i s' e'
          split at e
          · rename_i hc
            injection e with e
            obtain ⟨hl, -⟩ := List.getElem?_eq_some_iff.1 e'
            exact ⟨hl, e ▸ hc.2⟩
          · cases e
        · cases e
      exact ⟨h1, hd.1, h3, mergeSprite_length h4 hd.2, h5, h6, nofun, h8, h9, h10, h11⟩
    · split
      · exact ⟨h1, h2, h3, h4, h5, h6, nofun, h8, Nat.le_trans (Nat.sub_le _ _) h9, h10, h11⟩
      · have hf : p.fetcherDot.pushedX = p.pushedX := by
          unfold Ppu.fetcherDot
          split <;> (try rfl)
          split <;> rfl
        exact outputDot_inRange (fetcherDot_inRange h) (by rw [hf]; exact hx)

/-- The ranges, whatever the mode: only DRAW asks for a pixel still to come. -/
theorem inRange_mode {p : Ppu} (h : PpuInRange { p with mode := .hblank })
    (hm : p.mode = .draw → p.pushedX < 160) : PpuInRange p := by
  obtain ⟨h1, h2, h3, h4, h5, h6, -, h8, h9, h10, h11⟩ := h
  exact ⟨h1, h2, h3, h4, h5, h6, hm, h8, h9, h10, h11⟩

theorem endLine_inRange {p : Ppu} (h : PpuInRange p) : PpuInRange p.endLine.1 := by
  obtain ⟨h1, h2, h3, h4, h5, h6, -, h8, h9, h10, h11⟩ := h
  unfold Ppu.endLine
  split
  · exact ⟨h1, h2, h3, h4, h5, h6, nofun, h8, h9, h10, h11⟩
  · exact ⟨h1, h2, h3, h4, h5, h6, nofun, h8, h9, h10, h10⟩

theorem vblankLine_inRange {p : Ppu} (h : PpuInRange p) : PpuInRange p.vblankLine.1 := by
  obtain ⟨h1, h2, h3, h4, h5, h6, h7, h8, h9, h10, h11⟩ := h
  unfold Ppu.vblankLine
  split
  · exact ⟨h1, h2, h3, h4, h5, h6, h7, h8, h9, h10, h11⟩
  · exact ⟨h1, h2, h3, h4, h5, h6, nofun, h8, h9, h10, h11⟩

/-- A dot keeps the PPU's ranges. -/
theorem dot_inRange (d : Nat) {p : Ppu} (h : PpuInRange p) : PpuInRange (Ppu.dot d p).1 := by
  have h' := h
  obtain ⟨h1, h2, h3, h4, h5, h6, h7, h8, h9, h10, h11⟩ := h'
  unfold Ppu.dot
  simp only
  split
  · split
    · exact ⟨oamScan_length _, Nat.zero_le _, by simp [Ppu.enterDraw], by simp [Ppu.enterDraw], h5,
        by simp [Ppu.enterDraw], fun _ => by simp [Ppu.enterDraw], Nat.mod_lt _ (by decide), Nat.le_refl _,
        h10, h11⟩
    · exact ⟨h1, h2, h3, h4, h5, h6, h7, h8, h9, h10, h11⟩
  · rename_i hm
    have hd := drawDot_inRange d (p := { p with lineCycles := p.lineCycles + 1 })
      ⟨h1, h2, h3, h4, h5, h6, h7, h8, h9, h10, h11⟩ (h7 hm)
    split
    · exact hd
    · rename_i hx
      exact inRange_mode hd fun _ => by simpa using hx
  · split
    · exact endLine_inRange ⟨h1, h2, h3, h4, h5, h6, h7, h8, h9, h10, h11⟩
    · exact ⟨h1, h2, h3, h4, h5, h6, h7, h8, h9, h10, h11⟩
  · split
    · exact vblankLine_inRange ⟨h1, h2, h3, h4, h5, h6, h7, h8, h9, h10, h11⟩
    · exact ⟨h1, h2, h3, h4, h5, h6, h7, h8, h9, h10, h11⟩

/-! ### The coincidence bit and the frames -/

/-- The coincidence bit changes only with LY, in the comparison (R513). -/
theorem fetcherDot_coincidence {p : Ppu} (h : CoincidenceExact p) : CoincidenceExact p.fetcherDot := by
  unfold Ppu.fetcherDot
  split <;> (try exact h)
  split <;> exact h

theorem outputDot_coincidence {p : Ppu} (h : CoincidenceExact p) : CoincidenceExact p.outputDot := by
  unfold Ppu.outputDot
  split
  · exact h
  · simp only
    split <;> exact h

theorem dot_coincidence (d : Nat) {p : Ppu} (h : CoincidenceExact p) : CoincidenceExact (Ppu.dot d p).1 := by
  have hd : CoincidenceExact (Ppu.drawDot d { p with lineCycles := p.lineCycles + 1 }) := by
    unfold Ppu.drawDot
    split
    · exact h
    · split
      · exact h
      · split
        · exact h
        · exact outputDot_coincidence (fetcherDot_coincidence h)
  unfold Ppu.dot
  simp only
  split
  · split <;> exact h
  · split <;> exact hd
  · split
    · unfold Ppu.endLine; split <;> rfl
    · exact h
  · split
    · unfold Ppu.vblankLine; split <;> rfl
    · exact h

/-- The frames stay canonical: a pixel is one write, and the completed frame is the one drawn. -/
theorem dot_frames (d : Nat) {p : Ppu} (h : Memory.wf p.fbCur = true ∧ Memory.wf p.fbDone = true) :
    Memory.wf (Ppu.dot d p).1.fbCur = true ∧ Memory.wf (Ppu.dot d p).1.fbDone = true := by
  have hf : ∀ q : Ppu, (q.fetcherDot.fbCur = q.fbCur ∧ q.fetcherDot.fbDone = q.fbDone) := by
    intro q
    unfold Ppu.fetcherDot
    split <;> (try exact ⟨rfl, rfl⟩)
    split <;> exact ⟨rfl, rfl⟩
  have ho : ∀ q : Ppu, Memory.wf q.fbCur = true ∧ Memory.wf q.fbDone = true →
      Memory.wf q.outputDot.fbCur = true ∧ Memory.wf q.outputDot.fbDone = true := by
    intro q hq
    unfold Ppu.outputDot
    split
    · exact hq
    · simp only
      split
      · exact hq
      · refine ⟨?_, hq.2⟩
        simp only
        split
        · exact Memory.wf_memWrite _ _ hq.1
        · exact hq.1
  have hd : ∀ q : Ppu, Memory.wf q.fbCur = true ∧ Memory.wf q.fbDone = true →
      Memory.wf (q.drawDot d).fbCur = true ∧ Memory.wf (q.drawDot d).fbDone = true := by
    intro q hq
    unfold Ppu.drawDot
    split
    · exact hq
    · split
      · exact hq
      · split
        · exact hq
        · exact ho _ (by rw [(hf q).1, (hf q).2]; exact hq)
  unfold Ppu.dot
  simp only
  split
  · split <;> exact h
  · split <;> exact hd _ h
  · split
    · unfold Ppu.endLine
      split
      · exact h
      · exact ⟨h.1, h.1⟩
    · exact h
  · split
    · unfold Ppu.vblankLine
      split <;> exact h
    · exact h

end Sys2Proof.Machine
end

