-- ==== Sys2Proof/Laws/Reach.lean ====
section
/-! SUPPORT. The frame of a bus write: a byte that the write does not reach reads as before (`reaches`). -/

namespace Sys2Proof.Machine

/-- Two addresses of external RAM are two cells. -/
theorem ramIndex_ne (k : Cartridge) {a b : Nat} (ha : 0xA000 ≤ a) (hb : 0xA000 ≤ b) (h : a ≠ b) :
  k.ramIndex a ≠ k.ramIndex b := by unfold Cartridge.ramIndex; omega

/-- An external-RAM write leaves what another address shows. -/
theorem ramRead_ramWrite (k : Cartridge) {a b : Nat} (v : Byte) (ha : 0xA000 ≤ a) (hb : 0xA000 ≤ b)
    (h : (if k.family = .mbc2 then mbc2Cell a == mbc2Cell b else k.rtcMapped.isSome || a == b) = false) :
    (k.ramWrite a v).ramRead b = k.ramRead b := by
  by_cases hm : k.family = .mbc2
  · rw [if_pos hm] at h
    unfold Cartridge.ramWrite Cartridge.ramRead
    cases he : k.ramEnable
    · simp [hm, he]
    · simp only [hm, if_true]
      rw [memRead_memWrite_other _ _ (Ne.symm (by simpa using h))]
  · rw [if_neg hm] at h
    simp only [Bool.or_eq_false_iff, beq_eq_false_iff_ne, Option.isSome_eq_false_iff, Option.isNone_iff_eq_none] at h
    obtain ⟨hr, hab⟩ := h
    have e1 : ∀ k : Cartridge, k.family ≠ .mbc2 → k.rtcMapped = none → k.ramWrite a v = k.bankedWrite a v := by
      intro k h1 h2; simp [Cartridge.ramWrite, h1, h2]
    have e2 : ∀ k : Cartridge, k.family ≠ .mbc2 → k.rtcMapped = none → k.ramRead b = k.bankedRead b := by
      intro k h1 h2; simp [Cartridge.ramRead, h1, h2]
    rw [e1 k hm hr, e2 k hm hr]
    unfold Cartridge.bankedWrite
    split
    · exact e2 k hm hr
    · rename_i hc
      refine (e2 { k with ram := memWrite k.ram (k.ramIndex a) v } hm hr).trans ?_
      unfold Cartridge.bankedRead
      refine (if_neg hc).trans (Eq.trans ?_ (if_neg hc).symm)
      exact memRead_memWrite_other _ _ (ramIndex_ne _ hb ha (Ne.symm hab))

/-- A WRITE CHANGES ONLY WHAT IT REACHES: every other byte of the bus reads as before. -/
theorem busRead_busWrite_of_not_reached (x y : Word) (v : Byte) (s : State) (h : reaches s x y = false) :
    busRead y (busWrite x v s) = busRead y s := by
  have hx := region_inRange x
  have hy := region_inRange y
  unfold reaches at h
  by_cases same : busWrite x v s = s
  · rw [same]
  unfold busWrite at same
  unfold busRead busWrite
  cases ex : region x with
  | rom a =>
    cases ey : region y with
    | rom b =>
      rw [ex, ey] at h; simp at h
      simp only
      have : ∀ k : Cartridge, (k.controlWrite a v).romRead b = k.romRead b := by
        intro k
        simp [Cartridge.romRead, Cartridge.romIndex, (controlWrite_memories k a v).1, h]
      rw [this]; rfl
    | extRam b => rw [ex, ey] at h; simp at h
    | io r => cases r <;> rfl
    | _ => rfl
  | vram i =>
    cases hb : vramBlocked s
    · cases ey : region y with
      | vram j =>
        rw [ex, ey] at h; simp at h
        have : vramBlocked { s with ppu := { s.ppu with vram := memWrite s.ppu.vram i v } } = vramBlocked s := rfl
        simp only [hb, Bool.false_eq_true, if_false, this]
        exact memRead_memWrite_other _ _ (Ne.symm h)
      | io r => cases r <;> rfl
      | _ => rfl
    · rw [ex] at same; simp [hb] at same
  | extRam a =>
    rw [ex] at hx
    cases ey : region y with
    | extRam b =>
      rw [ey] at hy
      rw [ex, ey] at h
      exact ramRead_ramWrite _ v hx.2.1 hy.2.1 h
    | io r => cases r <;> rfl
    | rom b => 
      have : (s.cart.ramWrite a v).romRead b = s.cart.romRead b := by
        rcases ramWrite_cases s.cart a v with e | e | ⟨q, e⟩ | ⟨hn, e⟩ <;> rw [e] <;> rfl
      simp only [this]; rfl
    | _ => rfl
  | wram i =>
    cases ey : region y with
    | wram j => 
        rw [ex, ey] at h; simp at h
        exact memRead_memWrite_other _ _ (Ne.symm h)
    | io r => cases r <;> rfl
    | _ => rfl
  | hram i =>
    cases ey : region y with
    | hram j => 
        rw [ex, ey] at h; simp at h
        exact memRead_memWrite_other _ _ (Ne.symm h)
    | io r => cases r <;> rfl
    | _ => rfl
  | oam i =>
    cases hb : oamBlocked s
    · cases ey : region y with
      | oam j =>
        rw [ex, ey] at h; simp at h
        have : oamBlocked { s with ppu := { s.ppu with oam := memWrite s.ppu.oam i v } } = oamBlocked s := rfl
        simp only [hb, Bool.false_eq_true, if_false, this]
        exact memRead_memWrite_other _ _ (Ne.symm h)
      | io r => cases r <;> rfl
      | _ => rfl
    · rw [ex] at same; simp [hb] at same
  | unused => rfl
  | ie => 
    cases ey : region y with
    | ie => rw [ex, ey] at h; simp at h
    | io r => cases r <;> rfl
    | _ => rfl
  | io r =>
    cases ey : region y with
    | ie => cases r <;> rfl
    | io q => 
      rw [ex, ey] at h; simp [ioReach] at h
      have hl : ∀ p : Ppu, (p.writeLcdc v).scy = p.scy ∧ (p.writeLcdc v).scx = p.scx ∧ (p.writeLcdc v).lyc = p.lyc ∧ (p.writeLcdc v).bgp = p.bgp ∧ (p.writeLcdc v).obp0 = p.obp0 ∧ (p.writeLcdc v).obp1 = p.obp1 ∧ (p.writeLcdc v).wy = p.wy ∧ (p.writeLcdc v).wx = p.wx := by
        intro p; unfold Ppu.writeLcdc; simp only; split
        · exact ⟨rfl,rfl,rfl,rfl,rfl,rfl,rfl,rfl⟩
        · split <;> exact ⟨rfl,rfl,rfl,rfl,rfl,rfl,rfl,rfl⟩
      obtain ⟨l1,l2,l3,l4,l5,l6,l7,l8⟩ := hl s.ppu
      cases r <;> cases q <;> first | rfl | exact l1 | exact l2 | exact l3 | exact l4 | exact l5 | exact l6 | exact l7 | exact l8 | (exact absurd rfl h.1) | (exact absurd ⟨rfl, rfl⟩ h.2.1) | (exact memRead_memWrite_other _ _ (fun e => h.1 (by rw [e]))) | simp at h
    | vram j => rw [ex, ey] at h; cases r <;> first | rfl | simp at h
    | oam j => rw [ex, ey] at h; cases r <;> first | rfl | simp at h
    | rom j =>
      rw [ex, ey] at h
      cases r <;> first | rfl | (simp at h; have : ¬ j ≤ 0xFF := (by omega); simp [ioWrite, this])
    | _ => cases r <;> rfl

end Sys2Proof.Machine
end

