-- ==== Sys2Proof/Laws/Step.lean ====
section
/-! SUPPORT. A step said once: what an instruction stores, what a device step changes, and the one case
analysis from which every invariant of the machine follows (`step_keeps`). -/

namespace Sys2Proof.Machine

/-! ### Instructions -/

theorem stores_copyR8 (dst r : R8) (s : State) : Stores s (copyR8 dst r s) := stores_writeR8 _ _ _

theorem stores_alu (op : AluOp) (v : Byte) (s : State) : Stores s (alu op v s) := by
  cases op <;> exact .of_cpu rfl

theorem stores_callTo (a : Word) (s : State) : Stores s (callTo a s) := (stores_push16 _ _).then_cpu rfl

theorem stores_popQq (q : QQ) (s : State) : Stores s (popQq q s) := by cases q <;> exact .of_cpu rfl

theorem stores_accOp (y : Fin 8) (s : State) : Stores s (accOp y s) := by
  match y with
  | 0 | 1 | 2 | 3 | 4 | 5 | 6 | 7 => exact .of_cpu rfl

theorem stores_executeCb (op : Byte) (s : State) : Stores s (executeCb op s) := by
  unfold executeCb
  simp only
  split
  · exact (stores_writeR8 _ _ _).then_cpu rfl
  · exact .of_cpu rfl
  · exact (stores_writeR8 _ _ _).then_cpu rfl
  · exact (stores_writeR8 _ _ _).then_cpu rfl

theorem stores_prefixed (s : State) : Stores s (prefixed s) :=
  (Stores.of_cpu (fetch8_cpu s)).trans (stores_executeCb _ _)

theorem enterHalt_cpu (s : State) : enterHalt s = withCpu (enterHalt s) s := by
  unfold enterHalt
  split <;> rfl

/-- Every instruction answers a next state, and outside the CPU's registers it only stores. -/
theorem exec_stores (i : Instr) (s : State) : ∃ t, exec i s = .next t ∧ Stores s t := by
  revert i
  apply Instr.byFamily
  case ld => exact fun dst r h => ⟨_, exec_mkLd s dst r h, (stores_copyR8 _ _ _).then_cpu rfl⟩
  case ldN => exact fun r n => ⟨_, exec_mkLdN s r n, (stores_writeR8 _ _ _).then_cpu rfl⟩
  case alu => exact fun op r => ⟨_, exec_mkAlu s op r, (stores_alu _ _ _).then_cpu rfl⟩
  case aluN => exact fun op n => ⟨_, exec_mkAluN s op n, (stores_alu _ _ _).then_cpu rfl⟩
  case inc => exact fun r => ⟨_, exec_mkInc s r, (stores_writeR8 _ _ _).then_cpu rfl⟩
  case dec => exact fun r => ⟨_, exec_mkDec s r, (stores_writeR8 _ _ _).then_cpu rfl⟩
  case acc => exact fun y => ⟨_, exec_mkAccRot s y, (stores_accOp _ _).then_cpu rfl⟩
  case ldRr => exact fun rr n => ⟨_, exec_mkLdRr s rr n, (stores_writeRr _ _ _).then_cpu rfl⟩
  case addHl => exact fun rr => ⟨_, exec_mkAddHl s rr, .of_cpu rfl⟩
  case incRr => exact fun rr => ⟨_, exec_mkIncRr s rr, (stores_writeRr _ _ _).then_cpu rfl⟩
  case decRr => exact fun rr => ⟨_, exec_mkDecRr s rr, (stores_writeRr _ _ _).then_cpu rfl⟩
  case push => exact fun q => ⟨_, exec_mkPush s q, (stores_push16 _ _).then_cpu rfl⟩
  case pop => exact fun q => ⟨_, exec_mkPop s q, (stores_popQq _ _).then_cpu rfl⟩
  case jrCc => exact fun cc e => ⟨_, exec_mkJr s cc e, stores_branch (.of_cpu rfl)⟩
  case jpCc => exact fun cc a => ⟨_, exec_mkJp s cc a, stores_branch (.of_cpu rfl)⟩
  case callCc => exact fun cc a => ⟨_, exec_mkCall s cc a, stores_branch (stores_callTo _ _)⟩
  case retCc => exact fun cc => ⟨_, exec_mkRet s cc, stores_branch (.of_cpu rfl)⟩
  case rst => exact fun y => ⟨_, exec_mkRst s y, (stores_callTo _ _).then_cpu rfl⟩
  case rot => exact fun k r => ⟨_, exec_mkRot s k r, (stores_writeR8 _ _ _).then_cpu rfl⟩
  case bitTest => exact fun n r => ⟨_, exec_mkBit s n r, .of_cpu rfl⟩
  case res => exact fun n r => ⟨_, exec_mkRes s n r, (stores_writeR8 _ _ _).then_cpu rfl⟩
  case set => exact fun n r => ⟨_, exec_mkSet s n r, (stores_writeR8 _ _ _).then_cpu rfl⟩
  case illegal => exact fun i op h => ⟨_, exec_illegal s h, .of_cpu rfl⟩
  case halt => exact ⟨_, rfl, (Stores.of_cpu (enterHalt_cpu s)).then_cpu rfl⟩
  case prefixCb => exact ⟨_, rfl, stores_prefixed s⟩
  case callA16 => exact fun a => ⟨_, rfl, (stores_callTo _ _).then_cpu rfl⟩
  case ldAtBcA => exact ⟨_, rfl, (Stores.busWrite _ _ _).then_cpu rfl⟩
  case ldAtDeA => exact ⟨_, rfl, (Stores.busWrite _ _ _).then_cpu rfl⟩
  case ldAtHliA => exact ⟨_, rfl, (Stores.busWrite _ _ _).then_cpu rfl⟩
  case ldAtHldA => exact ⟨_, rfl, (Stores.busWrite _ _ _).then_cpu rfl⟩
  case ldhAtCA => exact ⟨_, rfl, (Stores.busWrite _ _ _).then_cpu rfl⟩
  case ldhAtA8A => exact fun a => ⟨_, rfl, (Stores.busWrite _ _ _).then_cpu rfl⟩
  case ldAtA16A => exact fun a => ⟨_, rfl, (Stores.busWrite _ _ _).then_cpu rfl⟩
  case ldAtA16Sp =>
    exact fun a => ⟨_, rfl, ((Stores.busWrite _ _ _).trans (.busWrite _ _ _)).then_cpu rfl⟩
  all_goals first | exact ⟨_, rfl, .of_cpu rfl⟩ | exact fun x => ⟨_, rfl, .of_cpu rfl⟩

/-- What `exec` answers is a next state. -/
theorem exec_next {i : Instr} {s t : State} (h : exec i s = .next t) : Stores s t := by
  obtain ⟨u, hu, hs⟩ := exec_stores i s
  rw [hu] at h
  injection h with h
  exact h ▸ hs

/-! ### The CPU step -/

/-- The halt release: HALT goes on while nothing is pending. -/
theorem releaseHalt_eq (s : State) :
    releaseHalt s = { s with halted := s.halted && decide (pending s = 0) } := by
  unfold releaseHalt
  split
  · rename_i h
    rw [decide_eq_false h.2, Bool.and_false]
  · rename_i h
    have e : (s.halted && decide (pending s = 0)) = s.halted := by
      cases hh : s.halted
      · rfl
      · rw [Bool.true_and, decide_eq_true_eq]
        by_contra hp
        exact h ⟨hh, hp⟩
    rw [e]

/-- The interrupt check: at most IF and the stack change outside the CPU's registers. -/
theorem interruptCheck_stores (s : State) :
    ∃ x, Stores { s with ifReg := x } (interruptCheck s) := by
  have hr : ∀ u : State, releaseHalt u = withCpu (releaseHalt u) u := by
    intro u; unfold releaseHalt; split <;> rfl
  have h0 := hr { s with cycles := 0 }
  have h1 : releaseHalt { s with cycles := 0 } = withCpu (releaseHalt { s with cycles := 0 }) s := h0
  unfold interruptCheck dispatchPending
  generalize releaseHalt { s with cycles := 0 } = u at h1 ⊢
  split
  · refine ⟨u.ifReg &&& ~~~(1#5 <<< lowestBit (pending u)), ?_⟩
    rw [takeInterrupt_eq]
    refine Stores.then_cpu (Stores.trans (.of_cpu ?_) (stores_push16 _ _)) rfl
    rw [h1]
    rfl
  · exact ⟨s.ifReg, .of_cpu h1⟩

theorem commitEi_cpu (w : Bool) (s : State) : commitEi w s = withCpu (commitEi w s) s := by
  unfold commitEi
  split <;> rfl

/-- A CPU step halts for 4 T-cycles, or runs one instruction. -/
theorem cpuStep_cases {s t : State} (h : cpuStep s = .next t) :
    ((interruptCheck s).halted = true ∧ t = tick 4 (interruptCheck s)) ∨
    ((interruptCheck s).halted = false ∧
      ∃ u, exec (fetchInstr (interruptCheck s)).1 (fetchInstr (interruptCheck s)).2 = .next u ∧
        t = if u.fault.isSome then u else commitEi (interruptCheck s).imeScheduled u) := by
  unfold cpuStep at h
  simp only at h
  split at h
  · rename_i hh
    injection h with h
    exact .inl ⟨hh, h.symm⟩
  · rename_i hh
    obtain ⟨u, hu, -⟩ := exec_stores (fetchInstr (interruptCheck s)).1 (fetchInstr (interruptCheck s)).2
    rw [hu] at h
    injection h with h
    exact .inr ⟨by simpa using hh, u, hu, h.symm⟩

/-- Outside the CPU's registers a CPU step changes IF and what it stores. -/
theorem cpuStep_stores {s t : State} (h : cpuStep s = .next t) :
    ∃ x, Stores { s with ifReg := x } t := by
  obtain ⟨x, hx⟩ := interruptCheck_stores s
  refine ⟨x, ?_⟩
  rcases cpuStep_cases h with ⟨-, rfl⟩ | ⟨-, u, hu, rfl⟩
  · exact hx.then_cpu rfl
  · have h1 := (hx.then_cpu (fetchInstr_cpu _)).trans (exec_next hu)
    split
    · exact h1
    · exact h1.then_cpu (commitEi_cpu _ _)

/-- A CPU step always answers a next state. -/
theorem cpuStep_answers (s : State) : ∃ t, cpuStep s = .next t := by
  unfold cpuStep
  simp only
  split
  · exact ⟨_, rfl⟩
  · obtain ⟨u, hu, -⟩ := exec_stores (fetchInstr (interruptCheck s)).1 (fetchInstr (interruptCheck s)).2
    rw [hu]
    exact ⟨_, rfl⟩

/-! ### The devices -/

theorem stepTimer_eq (c : Nat) (s : State) :
    stepTimer c s =
      { s with timer := (timerStep c s.timer).1, ifReg := s.ifReg ||| (timerStep c s.timer).2 } := rfl

theorem stepPpu_eq (c : Nat) (s : State) :
    stepPpu c s =
      { s with ppu := (ppuStep s.params.spriteFetchDots c s.ppu).1,
               ifReg := s.ifReg ||| (ppuStep s.params.spriteFetchDots c s.ppu).2 } := rfl

/-- The serial step changes the serial unit, IF and the bytes sent. -/
theorem stepSerial_eq (c : Nat) (s : State) :
    ∃ out, stepSerial c s =
      { s with serial := (serialStep c s.serial).1, ifReg := s.ifReg ||| (serialStep c s.serial).2.request,
               host := { s.host with serialOut := out } } := ⟨_, rfl⟩

theorem dmaIndex_mod (n : Nat) (h : n < 160) :
    (lo8 (0xFE00#16 ||| BitVec.ofNat 16 n)).toNat = n := by
  have : lo8 (0xFE00#16 ||| BitVec.ofNat 16 n) = BitVec.ofNat 8 n := by
    unfold lo8
    apply BitVec.eq_of_getLsbD_eq
    intro i hi
    simp only [BitVec.getLsbD_extractLsb', BitVec.getLsbD_or, BitVec.getLsbD_ofNat]
    have h16 : i < 16 := by omega
    have h2 : Nat.testBit 65024 i = false := by interval_cases i <;> rfl
    simp [hi, h16, h2]
  rw [this, BitVec.toNat_ofNat]
  omega

/-- One pass of the DMA loop. -/
theorem dmaCopy_eq (s : State) :
    dmaCopy s =
      { s with
        ppu := { s.ppu with
          oam := memWrite s.ppu.oam (lo8 (0xFE00#16 ||| BitVec.ofNat 16 s.dma.index)).toNat
            (busRead (pair s.dma.src (BitVec.ofNat 8 s.dma.index)) s) }
        dma := if s.dma.index + 1 = 160 then ⟨s.dma.src, false, s.dma.index + 1, 0⟩
          else ⟨s.dma.src, s.dma.active, s.dma.index + 1, s.dma.acc - 4⟩ } := by
  unfold dmaCopy writeOam
  by_cases h : s.dma.index + 1 = 160 <;> simp [h]

/-- What is true before a DMA step and kept by each byte it copies is true after it. -/
theorem stepDma_keeps {P : State → Prop} (c : Nat)
    (copy : ∀ s, s.dma.active = true → P s → P (dmaCopy s))
    (count : ∀ s n, P s → P { s with dma := { s.dma with acc := n } }) {s : State} (h : P s) :
    P (stepDma c s) := by
  have loop : ∀ n s, P s → P (dmaLoop n s) := by
    intro n
    induction n with
    | zero => exact fun s h => h
    | succ n ih =>
      intro s h
      unfold dmaLoop
      split
      · rename_i hc; exact ih _ (copy s hc.2 h)
      · exact h
  unfold stepDma
  split
  · exact loop _ _ (count _ _ h)
  · exact h

/-- The frame boundary changes the frame-ready flag, the joypad, IF, the shutdown latch and the host ports. -/
theorem frameBoundary_cases (s : State) :
    frameBoundary s = s ∨
    ∃ j x b w, frameBoundary s =
      { s with ppu := { s.ppu with frameReady := false }, joypad := j, ifReg := x, shutdown := b, host := w } := by
  unfold frameBoundary
  split
  · exact .inr ⟨_, _, _, _, rfl⟩
  · exact .inl rfl

/-- The DMA engine's counters after a step (R461): fewer than four T-cycles are left over, and an active
transfer has a byte left to copy. -/
theorem stepDma_counters (c : Nat) {s : State} (ha : s.dma.acc < 4) (hi : s.dma.index ≤ 160)
    (hx : s.dma.active = true → s.dma.index < 160) :
    (stepDma c s).dma.acc < 4 ∧ (stepDma c s).dma.index ≤ 160 ∧
      ((stepDma c s).dma.active = true → (stepDma c s).dma.index < 160) := by
  have loop : ∀ n (s : State), s.dma.acc < 4 * (n + 1) → (s.dma.active = false → s.dma.acc < 4) →
      s.dma.index ≤ 160 → (s.dma.active = true → s.dma.index < 160) →
      (dmaLoop n s).dma.acc < 4 ∧ (dmaLoop n s).dma.index ≤ 160 ∧
        ((dmaLoop n s).dma.active = true → (dmaLoop n s).dma.index < 160) := by
    intro n
    induction n with
    | zero => exact fun s h _ hi hx => ⟨by simpa [dmaLoop] using h, hi, hx⟩
    | succ n ih =>
      intro s h hf hi hx
      unfold dmaLoop
      split
      · rename_i hc
        have hlt := hx hc.2
        rw [dmaCopy_eq]
        apply ih <;> simp only
        · split <;> simp only <;> omega
        · split <;> simp [hc.2]
        · split <;> exact hlt
        · split
          · exact nofun
          · exact fun _ => by simp only; omega
      · rename_i hc
        refine ⟨?_, hi, hx⟩
        cases ht : s.dma.active
        · exact hf ht
        · by_contra hg
          exact hc ⟨by omega, ht⟩
  unfold stepDma
  split
  · rename_i hc
    exact loop _ _ (by simp only; omega) (fun h => by simp [hc] at h) hi hx
  · exact ⟨ha, hi, hx⟩

/-- A device step leaves the CPU's registers and IE. -/
theorem stepDma_cpu (c : Nat) (s : State) :
    stepDma c s = withCpu s (stepDma c s) ∧ (stepDma c s).ieReg = s.ieReg := by
  refine stepDma_keeps (P := fun t => t = withCpu s t ∧ t.ieReg = s.ieReg) c (fun t _ h => ?_)
    (fun t n h => ?_) ⟨rfl, rfl⟩
  · rw [dmaCopy_eq]
    refine ⟨?_, h.2⟩
    conv_lhs => rw [h.1]
    rfl
  · refine ⟨?_, h.2⟩
    conv_lhs => rw [h.1]
    rfl

theorem deviceSteps_cpu (c : Nat) (s : State) :
    deviceSteps c s = withCpu s (deviceSteps c s) ∧ (deviceSteps c s).ieReg = s.ieReg := by
  obtain ⟨h, k⟩ := stepDma_cpu c (stepTimer c s)
  unfold deviceSteps
  obtain ⟨o, ho⟩ := stepSerial_eq c (stepDma c (stepTimer c s))
  rw [stepPpu_eq, ho]
  refine ⟨?_, k⟩
  conv_lhs => rw [h]
  rfl

theorem frameBoundary_cpu (s : State) :
    frameBoundary s = withCpu s (frameBoundary s) ∧ (frameBoundary s).ieReg = s.ieReg := by
  rcases frameBoundary_cases s with e | ⟨j, x, b, w, e⟩ <;> rw [e] <;> exact ⟨rfl, rfl⟩

/-! ### The step -/

/-- A step from a state that may take one: the CPU step, then, unless a decode error ended it, the devices
and the frame boundary. -/
theorem step_cases {s t : State} (h : step s = .next t) :
    blocked s = none ∧ ∃ u, cpuStep s = .next u ∧
      t = if u.fault.isSome then u else frameBoundary (deviceSteps u.cycles u) := by
  unfold step engineStep at h
  split at h
  · cases h
  · rename_i hb
    obtain ⟨u, hu⟩ := cpuStep_answers s
    rw [hu] at h
    injection h with h
    exact ⟨hb, u, hu, h.symm⟩

/-- A state that is not blocked takes a step. -/
theorem step_answers {s : State} (h : blocked s = none) : ∃ t, step s = .next t := by
  obtain ⟨u, hu⟩ := cpuStep_answers s
  unfold step engineStep
  rw [h, hu]
  exact ⟨_, rfl⟩

/-- AN INVARIANT OF THE MACHINE. What no change of the CPU's registers, no IF bit, no bus write, no device
step and no frame boundary breaks, no step breaks. -/
theorem step_keeps {P : State → Prop}
    (cpu : ∀ c s, P s → P (withCpu c s))
    (irq : ∀ x s, P s → P { s with ifReg := x })
    (bus : ∀ a v s, P s → P (busWrite a v s))
    (timer : ∀ c s, P s → P { s with timer := (timerStep c s.timer).1 })
    (dma : ∀ c s, P s → P (stepDma c s))
    (serial : ∀ c s o, P s →
      P { s with serial := (serialStep c s.serial).1, host := { s.host with serialOut := o } })
    (ppu : ∀ c s, P s → P { s with ppu := (ppuStep s.params.spriteFetchDots c s.ppu).1 })
    (frame : ∀ s j b w, P s →
      P { s with ppu := { s.ppu with frameReady := false }, joypad := j, shutdown := b, host := w })
    {s t : State} (h : P s) (hs : step s = .next t) : P t := by
  have store : ∀ l s, P s → P (storeAll l s) := by
    intro l
    induction l with
    | nil => exact fun s h => h
    | cons w l ih => exact fun s h => ih _ (bus _ _ _ h)
  have stores : ∀ {s t : State}, Stores s t → P s → P t := by
    rintro s t ⟨l, hl⟩ h
    rw [hl]
    exact cpu _ _ (store l s h)
  obtain ⟨-, u, hu, rfl⟩ := step_cases hs
  obtain ⟨x, hx⟩ := cpuStep_stores hu
  have h1 := stores hx (irq x s h)
  split
  · exact h1
  · have h2 : P (stepTimer u.cycles u) := irq _ _ (timer _ _ h1)
    have h3 : P (stepDma u.cycles (stepTimer u.cycles u)) := dma _ _ h2
    have h4 : P (stepSerial u.cycles (stepDma u.cycles (stepTimer u.cycles u))) := by
      obtain ⟨o, ho⟩ := stepSerial_eq u.cycles (stepDma u.cycles (stepTimer u.cycles u))
      rw [ho]
      exact irq _ _ (serial u.cycles _ o h3)
    have h5 : P (deviceSteps u.cycles u) := irq _ _ (ppu _ _ h4)
    rcases frameBoundary_cases (deviceSteps u.cycles u) with e | ⟨j, x, b, w, e⟩ <;> rw [e]
    · exact h5
    · exact irq x _ (frame _ j b w h5)

end Sys2Proof.Machine
end

