-- ==== Sys2Proof/Tests/Slice0.lean ====
section
/-! SUPPORT. The model's own tests. Expected values are the spec's: the opcode grids of 30_encoding.md (R170,
R171), the examples of the instruction rules, and the vectors of 95_test_vectors.md, named in each comment.
After them a witness for the hypotheses of each obligation that has any. -/

namespace Sys2Proof.Tests

open Sys2Proof.Machine

/-- The outcome is a next state of which `p` holds. -/
def nextIs (r : Result) (p : State → Bool) : Bool :=
  match r with
  | .next t => p t
  | .fault _ => false
  | .refused _ => false

/-- The reset state with A and F. -/
def af (a f : Byte) : State := { State.reset with a := a, f := f }

/-- The reset state with HL and one byte of work RAM at it. -/
def hl (a : Word) (v : Byte) : State := busWrite a v (setHl a State.reset)

/-- The reset state with PC and bytes placed there. -/
def code (pc : Word) (bytes : List Byte) : State := placeBytes pc bytes { State.reset with pc := pc }

/-! ### Well-formedness -/

theorem test_wellFormed_refuses_lone_prefix : Instr.wellFormed .prefixCb = false := by decide
theorem test_wellFormed_accepts_cb : Instr.wellFormed .swapAtHl = true := by decide

/-! ### Decoding: the grids of R170 and R171, one row a test, with operand bytes 0x12 0x34 -/

/-- Sixteen primary opcodes from `n` on. -/
def primaryRow (n : Nat) : List Instr := (List.range 16).map fun k => decodeBytes (BitVec.ofNat 8 (n + k)) 0x12 0x34

/-- Sixteen CB opcodes from `n` on. -/
def cbRow (n : Nat) : List Instr := (List.range 16).map fun k => decodeBytes 0xCB (BitVec.ofNat 8 (n + k)) 0x34

theorem test_decode_lone_prefix : decode [0xCB] = .ok (.prefixCb, []) := by decide
theorem test_decode_truncated : decode [0xC3, 0x00] = .error (.truncated 0xC3) := by decide
theorem test_decode_empty : decode [] = .error .empty := by decide

theorem test_decode_0x : primaryRow 0x00 =
    [.nop, .ldBcN16 0x3412, .ldAtBcA, .incBc, .incB, .decB, .ldBN8 0x12, .rlca, .ldAtA16Sp 0x3412,
     .addHlBc, .ldAAtBc, .decBc, .incC, .decC, .ldCN8 0x12, .rrca] := by decide
theorem test_decode_1x : primaryRow 0x10 =
    [.stopN8 0x12, .ldDeN16 0x3412, .ldAtDeA, .incDe, .incD, .decD, .ldDN8 0x12, .rla, .jrE8 0x12,
     .addHlDe, .ldAAtDe, .decDe, .incE, .decE, .ldEN8 0x12, .rra] := by decide
theorem test_decode_2x : primaryRow 0x20 =
    [.jrNzE8 0x12, .ldHlN16 0x3412, .ldAtHliA, .incHl, .incH, .decH, .ldHN8 0x12, .daa, .jrZE8 0x12,
     .addHlHl, .ldAAtHli, .decHl, .incL, .decL, .ldLN8 0x12, .cpl] := by decide
theorem test_decode_3x : primaryRow 0x30 =
    [.jrNcE8 0x12, .ldSpN16 0x3412, .ldAtHldA, .incSp, .incAtHl, .decAtHl, .ldAtHlN8 0x12, .scf,
     .jrCE8 0x12, .addHlSp, .ldAAtHld, .decSp, .incA, .decA, .ldAN8 0x12, .ccf] := by decide
theorem test_decode_4x : primaryRow 0x40 =
    [.ldBB, .ldBC, .ldBD, .ldBE, .ldBH, .ldBL, .ldBAtHl, .ldBA, .ldCB, .ldCC, .ldCD, .ldCE, .ldCH,
     .ldCL, .ldCAtHl, .ldCA] := by decide
theorem test_decode_5x : primaryRow 0x50 =
    [.ldDB, .ldDC, .ldDD, .ldDE, .ldDH, .ldDL, .ldDAtHl, .ldDA, .ldEB, .ldEC, .ldED, .ldEE, .ldEH,
     .ldEL, .ldEAtHl, .ldEA] := by decide
theorem test_decode_6x : primaryRow 0x60 =
    [.ldHB, .ldHC, .ldHD, .ldHE, .ldHH, .ldHL, .ldHAtHl, .ldHA, .ldLB, .ldLC, .ldLD, .ldLE, .ldLH,
     .ldLL, .ldLAtHl, .ldLA] := by decide
theorem test_decode_7x : primaryRow 0x70 =
    [.ldAtHlB, .ldAtHlC, .ldAtHlD, .ldAtHlE, .ldAtHlH, .ldAtHlL, .halt, .ldAtHlA, .ldAB, .ldAC, .ldAD,
     .ldAE, .ldAH, .ldAL, .ldAAtHl, .ldAA] := by decide
theorem test_decode_8x : primaryRow 0x80 =
    [.addAB, .addAC, .addAD, .addAE, .addAH, .addAL, .addAAtHl, .addAA, .adcAB, .adcAC, .adcAD, .adcAE,
     .adcAH, .adcAL, .adcAAtHl, .adcAA] := by decide
theorem test_decode_9x : primaryRow 0x90 =
    [.subAB, .subAC, .subAD, .subAE, .subAH, .subAL, .subAAtHl, .subAA, .sbcAB, .sbcAC, .sbcAD, .sbcAE,
     .sbcAH, .sbcAL, .sbcAAtHl, .sbcAA] := by decide
theorem test_decode_Ax : primaryRow 0xA0 =
    [.andAB, .andAC, .andAD, .andAE, .andAH, .andAL, .andAAtHl, .andAA, .xorAB, .xorAC, .xorAD, .xorAE,
     .xorAH, .xorAL, .xorAAtHl, .xorAA] := by decide
theorem test_decode_Bx : primaryRow 0xB0 =
    [.orAB, .orAC, .orAD, .orAE, .orAH, .orAL, .orAAtHl, .orAA, .cpAB, .cpAC, .cpAD, .cpAE, .cpAH,
     .cpAL, .cpAAtHl, .cpAA] := by decide
theorem test_decode_Cx : primaryRow 0xC0 =
    [.retNz, .popBc, .jpNzA16 0x3412, .jpA16 0x3412, .callNzA16 0x3412, .pushBc, .addAN8 0x12, .rst00,
     .retZ, .ret, .jpZA16 0x3412, .rlD, .callZA16 0x3412, .callA16 0x3412, .adcAN8 0x12, .rst08] := by decide
theorem test_decode_Dx : primaryRow 0xD0 =
    [.retNc, .popDe, .jpNcA16 0x3412, .illegalD3, .callNcA16 0x3412, .pushDe, .subAN8 0x12, .rst10,
     .retC, .reti, .jpCA16 0x3412, .illegalDB, .callCA16 0x3412, .illegalDD, .sbcAN8 0x12, .rst18] := by decide
theorem test_decode_Ex : primaryRow 0xE0 =
    [.ldhAtA8A 0x12, .popHl, .ldhAtCA, .illegalE3, .illegalE4, .pushHl, .andAN8 0x12, .rst20,
     .addSpE8 0x12, .jpHl, .ldAtA16A 0x3412, .illegalEB, .illegalEC, .illegalED, .xorAN8 0x12, .rst28] := by decide
theorem test_decode_Fx : primaryRow 0xF0 =
    [.ldhAAtA8 0x12, .popAf, .ldhAAtC, .di, .illegalF4, .pushAf, .orAN8 0x12, .rst30, .ldHlSpE8 0x12,
     .ldSpHl, .ldAAtA16 0x3412, .ei, .illegalFC, .illegalFD, .cpAN8 0x12, .rst38] := by decide
theorem test_decode_cb_0x : cbRow 0x00 =
    [.rlcB, .rlcC, .rlcD, .rlcE, .rlcH, .rlcL, .rlcAtHl, .rlcA, .rrcB, .rrcC, .rrcD, .rrcE, .rrcH,
     .rrcL, .rrcAtHl, .rrcA] := by decide
theorem test_decode_cb_1x : cbRow 0x10 =
    [.rlB, .rlC, .rlD, .rlE, .rlH, .rlL, .rlAtHl, .rlA, .rrB, .rrC, .rrD, .rrE, .rrH, .rrL, .rrAtHl,
     .rrA] := by decide
theorem test_decode_cb_2x : cbRow 0x20 =
    [.slaB, .slaC, .slaD, .slaE, .slaH, .slaL, .slaAtHl, .slaA, .sraB, .sraC, .sraD, .sraE, .sraH,
     .sraL, .sraAtHl, .sraA] := by decide
theorem test_decode_cb_3x : cbRow 0x30 =
    [.swapB, .swapC, .swapD, .swapE, .swapH, .swapL, .swapAtHl, .swapA, .srlB, .srlC, .srlD, .srlE,
     .srlH, .srlL, .srlAtHl, .srlA] := by decide
theorem test_decode_cb_4x : cbRow 0x40 =
    [.bit0B, .bit0C, .bit0D, .bit0E, .bit0H, .bit0L, .bit0AtHl, .bit0A, .bit1B, .bit1C, .bit1D, .bit1E,
     .bit1H, .bit1L, .bit1AtHl, .bit1A] := by decide
theorem test_decode_cb_5x : cbRow 0x50 =
    [.bit2B, .bit2C, .bit2D, .bit2E, .bit2H, .bit2L, .bit2AtHl, .bit2A, .bit3B, .bit3C, .bit3D, .bit3E,
     .bit3H, .bit3L, .bit3AtHl, .bit3A] := by decide
theorem test_decode_cb_6x : cbRow 0x60 =
    [.bit4B, .bit4C, .bit4D, .bit4E, .bit4H, .bit4L, .bit4AtHl, .bit4A, .bit5B, .bit5C, .bit5D, .bit5E,
     .bit5H, .bit5L, .bit5AtHl, .bit5A] := by decide
theorem test_decode_cb_7x : cbRow 0x70 =
    [.bit6B, .bit6C, .bit6D, .bit6E, .bit6H, .bit6L, .bit6AtHl, .bit6A, .bit7B, .bit7C, .bit7D, .bit7E,
     .bit7H, .bit7L, .bit7AtHl, .bit7A] := by decide
theorem test_decode_cb_8x : cbRow 0x80 =
    [.res0B, .res0C, .res0D, .res0E, .res0H, .res0L, .res0AtHl, .res0A, .res1B, .res1C, .res1D, .res1E,
     .res1H, .res1L, .res1AtHl, .res1A] := by decide
theorem test_decode_cb_9x : cbRow 0x90 =
    [.res2B, .res2C, .res2D, .res2E, .res2H, .res2L, .res2AtHl, .res2A, .res3B, .res3C, .res3D, .res3E,
     .res3H, .res3L, .res3AtHl, .res3A] := by decide
theorem test_decode_cb_Ax : cbRow 0xA0 =
    [.res4B, .res4C, .res4D, .res4E, .res4H, .res4L, .res4AtHl, .res4A, .res5B, .res5C, .res5D, .res5E,
     .res5H, .res5L, .res5AtHl, .res5A] := by decide
theorem test_decode_cb_Bx : cbRow 0xB0 =
    [.res6B, .res6C, .res6D, .res6E, .res6H, .res6L, .res6AtHl, .res6A, .res7B, .res7C, .res7D, .res7E,
     .res7H, .res7L, .res7AtHl, .res7A] := by decide
theorem test_decode_cb_Cx : cbRow 0xC0 =
    [.set0B, .set0C, .set0D, .set0E, .set0H, .set0L, .set0AtHl, .set0A, .set1B, .set1C, .set1D, .set1E,
     .set1H, .set1L, .set1AtHl, .set1A] := by decide
theorem test_decode_cb_Dx : cbRow 0xD0 =
    [.set2B, .set2C, .set2D, .set2E, .set2H, .set2L, .set2AtHl, .set2A, .set3B, .set3C, .set3D, .set3E,
     .set3H, .set3L, .set3AtHl, .set3A] := by decide
theorem test_decode_cb_Ex : cbRow 0xE0 =
    [.set4B, .set4C, .set4D, .set4E, .set4H, .set4L, .set4AtHl, .set4A, .set5B, .set5C, .set5D, .set5E,
     .set5H, .set5L, .set5AtHl, .set5A] := by decide
theorem test_decode_cb_Fx : cbRow 0xF0 =
    [.set6B, .set6C, .set6D, .set6E, .set6H, .set6L, .set6AtHl, .set6A, .set7B, .set7C, .set7D, .set7E,
     .set7H, .set7L, .set7AtHl, .set7A] := by decide

/-- The lengths of R174 for the rows 0x and Cx. -/
theorem test_lengths : ((List.range 16).map fun k => opLength (BitVec.ofNat 8 k)) =
      [1, 3, 1, 1, 1, 1, 2, 1, 3, 1, 1, 1, 1, 1, 2, 1] ∧
    ((List.range 16).map fun k => opLength (BitVec.ofNat 8 (0xC0 + k))) =
      [1, 1, 3, 3, 3, 1, 2, 1, 1, 1, 3, 2, 3, 3, 2, 1] := by decide

/-! ### Table words -/

theorem test_tableWord_primary : decodeTableWord 8 0x3E = some (.ldAN8 0x00) := by decide
theorem test_tableWord_cb : decodeTableWord 16 0xCB7E = some .bit7AtHl := by decide
theorem test_tableWord_prefix : decodeTableWord 8 0xCB = some .prefixCb := by decide
theorem test_withFetchWord_runs :
    nextIs (step (State.reset.withFetchWord 16 0xCB37)) (fun t => t.a == 0x10 && t.pc == 0x0102) = true := by
  decide


/-! ### Loads (95_test_vectors.md section 2.1) -/

/-- V-LD-1. -/
theorem test_ldAAtHli : nextIs (exec .ldAAtHli { setHl 0xFFFF State.reset with ieReg := 0x1F })
    (fun t => t.a == 0x1F && getHl t == 0x0000 && t.cycles == 8) = true := by decide
/-- V-LD-2. -/
theorem test_ldAtHldA : nextIs (exec .ldAtHldA { setHl 0xC000 State.reset with a := 0x44 })
    (fun t => busRead 0xC000 t == 0x44 && getHl t == 0xBFFF) = true := by decide
/-- V-LD-3. -/
theorem test_ldhAtCA_resets_div : nextIs (exec .ldhAtCA
      { State.reset with c := 0x04, timer := { State.reset.timer with divCounter := 0x1234 } })
    (fun t => t.timer.divCounter == 0) = true := by decide
/-- V-LD-4. -/
theorem test_ldAtA16Sp : nextIs (exec (.ldAtA16Sp 0xC0FF) { State.reset with sp := 0x1234 })
    (fun t => busRead 0xC0FF t == 0x34 && busRead 0xC100 t == 0x12 && t.cycles == 20) = true := by decide
/-- V-LD-5. -/
theorem test_pushBc_wraps : nextIs (exec .pushBc { setBc 0xAB3C State.reset with sp := 0x0001 })
    (fun t => t.sp == 0xFFFF && t.cart == State.reset.cart && t.ieReg == 0x1C) = true := by decide
/-- V-LD-6. -/
theorem test_popAf_masks : nextIs (exec .popAf (busWrite 0xFFFC 0xFF { State.reset with sp := 0xFFFC }))
    (fun t => t.a == 0x00 && t.f == 0xF0 && t.sp == 0xFFFE) = true := by decide
/-- V-LD-7. -/
theorem test_ldHlSpE8 : nextIs (exec (.ldHlSpE8 0xFE) { State.reset with sp := 0x0005 })
    (fun t => getHl t == 0x0003 && t.f == 0x30 && t.cycles == 12) = true := by decide
/-- V-LD-9 and V-LD-13, V-LD-14. -/
theorem test_ldAAtA16_blocked : nextIs (exec (.ldAAtA16 0xFE00)
      { State.reset with ppu := { State.reset.ppu with oam := [(0, 0x12)] } })
    (fun t => t.a == 0xFF) = true := by decide
theorem test_ldhAAtA8_unmapped : nextIs (exec (.ldhAAtA8 0x03) State.reset) (fun t => t.a == 0xFF) = true := by
  decide
/-- V-LD-11, V-LD-12. -/
theorem test_ldAtA16A_vram : nextIs (exec (.ldAtA16A 0x8000)
      { af 0x77 0 with ppu := { State.reset.ppu with mode := .draw } }) (fun t => t.ppu.vram == []) = true ∧
    nextIs (exec (.ldAtA16A 0x8000) { af 0x77 0 with ppu := { State.reset.ppu with mode := .hblank } })
      (fun t => t.ppu.vram == [(0, 0x77)]) = true := by decide
/-- V-LD-15. -/
theorem test_ldAtHlN8 : nextIs (exec (.ldAtHlN8 0x99) (setHl 0xC000 State.reset))
    (fun t => busRead 0xC000 t == 0x99 && t.cycles == 12) = true := by decide

/-! ### Arithmetic (sections 1.2, 2.2, 2.3) -/

/-- S1. -/
theorem test_addAN8 : nextIs (exec (.addAN8 0xFF) (af 0x3A 0)) (fun t => t.a == 0x39 && t.f == 0x30) = true := by
  decide
/-- V-ALU-21. -/
theorem test_addAAtHl : nextIs (exec .addAAtHl { hl 0xC000 0xC6 with a := 0x3A })
    (fun t => t.a == 0x00 && t.f == 0xB0 && t.cycles == 8) = true := by decide
/-- V-ALU-2. -/
theorem test_adcAN8 : nextIs (exec (.adcAN8 0x00) (af 0xFF 0x10)) (fun t => t.a == 0x00 && t.f == 0xB0) = true := by
  decide
/-- V-ALU-4. -/
theorem test_subAN8 : nextIs (exec (.subAN8 0x01) (af 0x00 0)) (fun t => t.a == 0xFF && t.f == 0x70) = true := by
  decide
/-- V-ALU-5, V-ALU-6. -/
theorem test_sbcAN8 : nextIs (exec (.sbcAN8 0x00) (af 0x00 0x10)) (fun t => t.a == 0xFF && t.f == 0x70) = true ∧
    nextIs (exec (.sbcAN8 0x2A) (af 0x3B 0x10)) (fun t => t.a == 0x10 && t.f == 0x40) = true := by decide
/-- V-ALU-7. -/
theorem test_andAN8 : nextIs (exec (.andAN8 0x0F) (af 0xF0 0)) (fun t => t.a == 0x00 && t.f == 0xA0) = true := by
  decide
/-- V-ALU-8. -/
theorem test_xorAA : nextIs (exec .xorAA (af 0x5A 0x70)) (fun t => t.a == 0x00 && t.f == 0x80) = true := by decide
/-- V-ALU-9. -/
theorem test_orAA : nextIs (exec .orAA (af 0x00 0x10)) (fun t => t.a == 0x00 && t.f == 0x80) = true := by decide
/-- V-ALU-11. -/
theorem test_cpAN8 : nextIs (exec (.cpAN8 0x40) (af 0x3C 0)) (fun t => t.a == 0x3C && t.f == 0x50) = true := by
  decide
/-- V-ALU-12. -/
theorem test_incB : nextIs (exec .incB { State.reset with b := 0xFF, f := 0x10 })
    (fun t => t.b == 0x00 && t.f == 0xB0) = true := by decide
/-- V-ALU-14. -/
theorem test_incAtHl : nextIs (exec .incAtHl (hl 0xC000 0x0F))
    (fun t => busRead 0xC000 t == 0x10 && t.f == 0x30 && t.cycles == 12) = true := by decide
/-- V-ALU-13. -/
theorem test_decB : nextIs (exec .decB { State.reset with b := 0x00, f := 0x00 })
    (fun t => t.b == 0xFF && t.f == 0x60) = true := by decide
/-- V-ALU-15, V-ALU-16. -/
theorem test_daa : nextIs (exec .daa (af 0x0F 0x60)) (fun t => t.a == 0x09 && t.f == 0x40) = true ∧
    nextIs (exec .daa (af 0x9A 0x00)) (fun t => t.a == 0x00 && t.f == 0x90) = true := by decide
/-- V-ALU-17. -/
theorem test_daa_subtraction : nextIs (exec .daa (af 0x00 0x70)) (fun t => t.a == 0x9A && t.f == 0x50) = true := by
  decide
/-- V-ALU-18. -/
theorem test_cpl : nextIs (exec .cpl (af 0x35 0x00)) (fun t => t.a == 0xCA && t.f == 0x60) = true := by decide
/-- V-ALU-19. -/
theorem test_scf : nextIs (exec .scf (af 0 0x80)) (fun t => t.f == 0x90) = true := by decide
/-- V-ALU-20. -/
theorem test_ccf : nextIs (exec .ccf (af 0 0x90)) (fun t => t.f == 0x80) = true := by decide
/-- V-A16-1. -/
theorem test_addHlBc : nextIs (exec .addHlBc { setBc 0x0605 (setHl 0x8A23 State.reset) with f := 0x80 })
    (fun t => getHl t == 0x9028 && t.f == 0xA0) = true := by decide
/-- V-A16-2. -/
theorem test_addHlHl : nextIs (exec .addHlHl { setHl 0x8000 State.reset with f := 0x00 })
    (fun t => getHl t == 0x0000 && t.f == 0x10) = true := by decide
/-- V-A16-5. -/
theorem test_decBc : nextIs (exec .decBc (setBc 0x0000 State.reset))
    (fun t => getBc t == 0xFFFF && t.f == 0xB0) = true := by decide
/-- V-A16-7, V-A16-8. -/
theorem test_addSpE8 : nextIs (exec (.addSpE8 0xFF) { State.reset with sp := 0x0000 })
      (fun t => t.sp == 0xFFFF && t.f == 0x00) = true ∧
    nextIs (exec (.addSpE8 0xFE) { State.reset with sp := 0x0005 })
      (fun t => t.sp == 0x0003 && t.f == 0x30) = true := by decide

/-! ### Rotates, shifts and bits (section 2.4) -/

/-- V-ROT-1. -/
theorem test_rla : nextIs (exec .rla (af 0x80 0x00)) (fun t => t.a == 0x00 && t.f == 0x10) = true := by decide
/-- V-ROT-2. -/
theorem test_rlca : nextIs (exec .rlca (af 0x00 0x80)) (fun t => t.a == 0x00 && t.f == 0x00) = true := by decide
/-- V-ROT-3. -/
theorem test_rra : nextIs (exec .rra (af 0x01 0x00)) (fun t => t.a == 0x00 && t.f == 0x10) = true := by decide
/-- V-ROT-4. -/
theorem test_rrca : nextIs (exec .rrca (af 0x01 0x00)) (fun t => t.a == 0x80 && t.f == 0x10) = true := by decide
/-- V-ROT-7. -/
theorem test_rlcAtHl : nextIs (exec .rlcAtHl (hl 0xC000 0x81))
    (fun t => busRead 0xC000 t == 0x03 && t.f == 0x10 && t.cycles == 16) = true := by decide
/-- S3. -/
theorem test_rlC : nextIs (exec .rlC { State.reset with c := 0x55, f := 0x10 })
    (fun t => t.c == 0xAB && t.f == 0x00 && t.cycles == 8) = true := by decide
/-- V-ROT-8. -/
theorem test_srlE : nextIs (exec .srlE { State.reset with e := 0x01 })
    (fun t => t.e == 0x00 && t.f == 0x90) = true := by decide
/-- V-ROT-9. -/
theorem test_sraA : nextIs (exec .sraA (af 0x8A 0)) (fun t => t.a == 0xC5 && t.f == 0x00) = true := by decide
/-- V-ROT-10. -/
theorem test_swapA : nextIs (exec .swapA (af 0x00 0)) (fun t => t.a == 0x00 && t.f == 0x80) = true := by decide
/-- V-ROT-15. -/
theorem test_slaD : nextIs (exec .slaD { State.reset with d := 0x80 })
    (fun t => t.d == 0x00 && t.f == 0x90) = true := by decide
/-- V-ROT-11. -/
theorem test_bit0A : nextIs (exec .bit0A (af 0x01 0x10)) (fun t => t.f == 0x30) = true := by decide
/-- V-ROT-12. -/
theorem test_res7AtHl : nextIs (exec .res7AtHl (hl 0xC000 0xFF))
    (fun t => busRead 0xC000 t == 0x7F && t.f == 0xB0 && t.cycles == 16) = true := by decide
/-- V-ROT-13. -/
theorem test_set7AtHl_starts_serial : nextIs (exec .set7AtHl
      { setHl 0xFF02 State.reset with serial := ⟨0x00, false, true, 100⟩ })
    (fun t => t.serial == ⟨0x00, true, true, 0⟩ && busRead 0xFF02 t == 0xFF) = true := by decide

/-! ### Control transfers (section 2.5) -/

/-- V-CTL-1: the displacement is taken from the address after the instruction. -/
theorem test_jrE8 : nextIs (exec (.jrE8 0x80) { State.reset with pc := 0x0202 }) (fun t => t.pc == 0x0182) = true := by
  decide
/-- S2 and V-CTL-3. -/
theorem test_jrNzE8 : nextIs (step { code 0x0100 [0x20, 0x05] with f := 0x80 })
      (fun t => t.pc == 0x0102 && t.cycles == 8) = true ∧
    nextIs (step { code 0x0100 [0x20, 0x05] with f := 0x00 })
      (fun t => t.pc == 0x0107 && t.cycles == 12) = true := by decide
/-- V-CTL-4. -/
theorem test_jpZA16 : nextIs (exec (.jpZA16 0x2000) { af 0 0 with pc := 0x0103 })
    (fun t => t.pc == 0x0103 && t.cycles == 12) = true := by decide
/-- V-CTL-5. -/
theorem test_jpHl : nextIs (exec .jpHl (setHl 0xC000 State.reset)) (fun t => t.pc == 0xC000) = true := by decide
/-- V-CTL-6. -/
theorem test_callA16 : nextIs (step (code 0x0108 [0xCD, 0x10, 0x01]))
    (fun t => t.pc == 0x0110 && t.sp == 0xFFFC && busRead 0xFFFD t == 0x01 && busRead 0xFFFC t == 0x0B &&
      t.cycles == 24) = true := by decide
/-- V-CTL-8, V-CTL-9. -/
theorem test_retZ : nextIs (exec .retZ (busWrite 0xFFFD 0x01 (busWrite 0xFFFC 0x0B { af 0 0x80 with sp := 0xFFFC })))
      (fun t => t.pc == 0x010B && t.sp == 0xFFFE && t.cycles == 20) = true ∧
    nextIs (exec .retZ (af 0 0)) (fun t => t.sp == 0xFFFE && t.pc == 0x0100 && t.cycles == 8) = true := by decide
/-- V-CTL-10. -/
theorem test_rst38 : nextIs (step (code 0x0200 [0xFF]))
    (fun t => t.pc == 0x0038 && busRead 0xFFFD t == 0x02 && busRead 0xFFFC t == 0x01) = true := by decide
/-- V-CTL-11. -/
theorem test_reti : nextIs (exec .reti (busWrite 0xFFFD 0x01 (busWrite 0xFFFC 0x0E { State.reset with sp := 0xFFFC })))
    (fun t => t.pc == 0x010E && t.ime && t.cycles == 16) = true := by decide
/-- V-CTL-12: PC wraps. -/
theorem test_pc_wraps : nextIs (step { State.reset with pc := 0xFFFF }) (fun t => t.pc == 0x0000) = true := by decide

/-! ### System instructions and interrupts (section 2.6) -/

/-- V-SYS-3 (the halted step) and V-SYS-5 (the halt bug). -/
theorem test_halt : nextIs (exec .halt { State.reset with ieReg := 0x04 }) (fun t => t.halted && !t.haltBug) = true ∧
    nextIs (exec .halt { State.reset with ieReg := 0x04, ifReg := 0x04 })
      (fun t => !t.halted && t.haltBug) = true := by decide
theorem test_haltBug_step : nextIs (step { code 0x0201 [0x3C] with a := 0x00, haltBug := true })
    (fun t => t.a == 0x01 && t.pc == 0x0201 && !t.haltBug) = true := by decide
/-- V-SYS-7. -/
theorem test_stop : nextIs (step (code 0x0150 [0x10, 0x00]))
    (fun t => t.pc == 0x0152 && t.stopped && t.cycles == 4 && t.timer.divCounter == 4) = true := by decide
/-- V-SYS-8. -/
theorem test_decodeError : nextIs (step (code 0xC000 [0xDD]))
    (fun t => t.fault == some ⟨0xDD, 0xC000⟩ && t.pc == 0xC001 && t.timer == State.reset.timer) = true := by decide
/-- V-SYS-10. -/
theorem test_operand_is_data : nextIs (step (code 0x0100 [0x3E, 0xD3]))
    (fun t => t.a == 0xD3 && t.fault == none) = true := by decide
/-- V-SYS-11. -/
theorem test_haltBug_prefix : nextIs (step { code 0x0200 [0xCB, 0x11] with haltBug := true, e := 0x00 })
    (fun t => t.e == 0x02 && t.pc == 0x0201) = true := by decide
/-- V-SYS-1 and V-SYS-2. -/
theorem test_ei : nextIs (step (code 0xC000 [0xFB])) (fun t => !t.ime && t.imeScheduled) = true ∧
    nextIs (step { code 0xC000 [0x00] with imeScheduled := true }) (fun t => t.ime && !t.imeScheduled) = true := by
  decide
theorem test_ei_di : nextIs (step { code 0xC000 [0xF3] with imeScheduled := true })
    (fun t => !t.ime && !t.imeScheduled) = true := by decide
/-- V-INT-1. -/
theorem test_dispatch : nextIs (step { State.reset with ime := true, ieReg := 0x1F, ifReg := 0x05, pc := 0x0150 })
    (fun t => t.ifReg == 0x04 && !t.ime && t.sp == 0xFFFC && busRead 0xFFFD t == 0x01 &&
      busRead 0xFFFC t == 0x50 && t.pc == 0x0041 && t.cycles == 24) = true := by decide
/-- V-INT-4. -/
theorem test_if_ie : busRead 0xFF0F (busWrite 0xFF0F 0xFF State.reset) = 0xFF ∧
    busRead 0xFFFF (busWrite 0xFFFF 0xFF State.reset) = 0x1F := by decide

/-! ### Devices (sections 1.2 and 2.6 to 2.10) -/

/-- V-INT-6, V-INT-7. -/
theorem test_joypad : joypadPoll 0x10 ⟨2, 0⟩ = (⟨2, 0x10⟩, 0x10) ∧ (⟨2, 0x10⟩ : Joypad).readP1 = 0xEE ∧
    joypadPoll 0x01 ⟨2, 0⟩ = (⟨2, 0x01⟩, 0) ∧ (⟨2, 0x01⟩ : Joypad).readP1 = 0xEF := by decide
/-- V-TMR-1, V-TMR-3. -/
theorem test_timer : (timerStep 32 ⟨0xFFF0, 0, 0, 0, 0⟩).1.divCounter = 0x0010 ∧
    (timerStep 600 ⟨0, 0, 0, 7, 0⟩).1 = ⟨600, 0x02, 0, 7, 88⟩ := by decide
/-- V-TMR-4 and S5. -/
theorem test_timer_reload : timerStep 130 ⟨0, 0xFE, 0x10, 6, 0⟩ = (⟨130, 0x10, 0x10, 6, 2⟩, 0x04) ∧
    timerStep 16 ⟨0, 0xFF, 0xAB, 5, 0⟩ = (⟨16, 0xAB, 0xAB, 5, 0⟩, 0x04) := by decide
/-- V-SER-1, V-SER-6. -/
theorem test_serial : serialStep 4095 ⟨0x42, true, true, 0⟩ = (⟨0x42, true, true, 4095⟩, ⟨0, none⟩) ∧
    serialStep 24 ⟨0x42, true, true, 4090⟩ = (⟨0xFF, false, true, 0⟩, ⟨0x08, some 0x42⟩) := by decide
/-- V-DMA-1, its first engine step. -/
theorem test_dma : nextIs (step { State.reset with
      pc := 0xC100, a := 0xC0, ppu := Ppu.reset, wram := [(1, 0x01), (2, 0x02), (0x100, 0xE0), (0x101, 0x46)] })
    (fun t => t.dma == ⟨0xC0, true, 3, 0⟩ && t.ppu.oam == [(1, 0x01), (2, 0x02)]) = true := by decide
/-- V-PPU-1. -/
theorem test_ppu_draw : (Ppu.dot 6 { State.reset.ppu with lineCycles := 78 }).1.readStat = 0x86 ∧
    (Ppu.dot 6 { State.reset.ppu with lineCycles := 79 }).1.readStat = 0x87 := by decide
/-- V-PPU-9. -/
theorem test_oamScan : ({ Ppu.reset with lcdc := 0x91, oam := memOfList 0 <|
      [16, 80, 0, 0, 16, 20, 0, 0, 16, 50, 0, 0, 16, 20, 0, 0, 16, 90, 0, 0, 16, 10, 0, 0,
       16, 70, 0, 0, 16, 30, 0, 0, 16, 40, 0, 0, 16, 60, 0, 0, 16, 5, 0, 0, 16, 5, 0, 0] } : Ppu).oamScan.map
      Sprite.index = [5, 1, 3, 7, 8, 2, 9, 6, 0, 4] := by decide
/-- V-PPU-13, V-PPU-14. -/
theorem test_lyc : (Ppu.writeLyc { Ppu.reset with ly := 5, statSel := 8, coincidence := false } 0x05).2 = 0x02 ∧
    (Ppu.writeLyc { Ppu.reset with ly := 5, lyc := 5, statSel := 8, coincidence := true } 0x05).2 = 0 ∧
    (Ppu.writeStat Ppu.reset 0x40).2 = 0x02 := by decide
/-- V-PPU-22. -/
theorem test_ly_write_zero : (Ppu.writeLy .zero { Ppu.reset with ly := 50 } 0x77).1.ly = 0 := by decide

/-! ### Cartridge (section 2.11) -/

/-- A cartridge with four ROM banks, the first byte of bank k holding k, and four RAM banks. -/
def cart (f : Family) : State :=
  { State.reset with cart := { Cartridge.blank with
      family := f, nrom := 4, rom := [(0x4000, 1), (0x8000, 2), (0xC000, 3)], nram := 4 } }

/-- V-MBC-1 to V-MBC-4. -/
theorem test_mbc1_rom : busRead 0x4000 (busWrite 0x2000 0x00 (cart .mbc1)) = 1 ∧
    busRead 0x4000 (busWrite 0x2000 0x21 (cart .mbc1)) = 1 ∧
    busRead 0x4000 (busWrite 0x2000 0x20 (cart .mbc1)) = 1 ∧
    busRead 0x4000 (busWrite 0x2000 0x07 (cart .mbc1)) = 3 := by decide
/-- V-MBC-6 and V-MBC-7. -/
theorem test_mbc1_ram : busRead 0xA000 (cart .mbc1) = 0xFF ∧
    busRead 0xA000 (busWrite 0xA000 0x55 (busWrite 0x4000 0x02 (busWrite 0x0000 0x0A (cart .mbc1)))) = 0x55 := by
  decide
/-- V-MBC-10. -/
theorem test_mbc2_ram : busRead 0xA1FF (busWrite 0xA3FF 0xAB (busWrite 0x0000 0x0A (cart .mbc2))) = 0xFB := by decide
/-- V-MBC-11. -/
theorem test_mbc3_rtc : (busWrite 0xA000 0x2A (busWrite 0x4000 0x08 (busWrite 0x0000 0x0A (cart .mbc3)))).cart.rtc =
      [(0, 0x2A)] ∧
    (busWrite 0xA000 0x2A (busWrite 0x4000 0x08 (busWrite 0x0000 0x0A (cart .mbc3)))).cart.ram = [] := by decide
/-- V-MBC-12, V-MBC-13. -/
theorem test_mbc5_and_none : (busWrite 0x2000 0xFF (cart .mbc5)).cart.romBank = 0xFF ∧
    (busWrite 0x2000 0x05 (cart .none)).cart.romBank = 0x01 := by decide
/-- V-MBC-15 to V-MBC-17. -/
theorem test_header_errors : parseHeader 0x8000 0x04 0 0 = .error (.unsupportedType 0x04) ∧
    parseHeader 0x8000 0x00 0x01 0 = .error .wrongLength ∧ parseHeader 0x100 0 0 0 = .error .romTooShort := by decide

/-! ### Reset (section 2.12) -/

/-- V-RST-2 to V-RST-10. -/
theorem test_reset_reads : [0xFF40#16, 0xFF41#16, 0xFF07#16, 0xFF47#16, 0xFF48#16, 0xFF0F#16, 0xFFFF#16, 0xFF04#16,
      0xFF44#16, 0xFF02#16, 0xFF01#16, 0xFF00#16, 0xFF26#16, 0xFF50#16].map (fun a => busRead a State.reset) =
    [0x91, 0x86, 0xF8, 0xFC, 0x00, 0xE0, 0x00, 0x00, 0x00, 0x7E, 0x00, 0xCF, 0xF1, 0xFF] := by decide
/-- V-RST-12. -/
theorem test_short_boot_rom : busRead 0x0020 { State.bootColumn with bootRom := some (List.replicate 16 0x00) } = 0xFF ∧
    busRead 0x000F { State.bootColumn with bootRom := some (List.replicate 16 0x00) } = 0x00 := by decide

/-! ### Witnesses: concrete states and operands that meet the hypotheses of an obligation together -/

theorem witness_DecodeOfEncode : Instr.wellFormed (.ldSpN16 0xFFFE) = true := by decide
theorem witness_EncodeOfDecode : decode [0xCB, 0x7E, 0x00] = .ok (.bit7AtHl, [0x00]) ∧
    decode [0xFA, 0x34, 0x12] = .ok (.ldAAtA16 0x1234, []) := by decide

/-- The reset state runs its next instruction. -/
theorem reset_runsNext : RunsNext State.reset := by decide

theorem witness_DecodeErrorEndsRun : Instr.illegalDD.illegalOpcode = some 0xDD ∧ RunsNext (code 0xC000 [0xDD]) ∧
    Fetches (code 0xC000 [0xDD]) .illegalDD := ⟨rfl, by decide, _, rfl⟩

theorem witness_StepRunsDecodedInstruction : ∃ u, blocked State.reset = none ∧ interruptCheck State.reset = u ∧
    u.halted = false ∧ u.haltBug = false ∧ Fetches u .nop :=
  ⟨State.reset, by decide, by decide, by decide, by decide, _, rfl⟩

theorem witness_HaltBugRereadsOpcode : ∃ u rest, blocked { State.reset with haltBug := true } = none ∧
    interruptCheck { State.reset with haltBug := true } = u ∧ u.halted = false ∧ u.haltBug = true ∧
    decode [busRead u.pc u, busRead u.pc u, busRead (u.pc + 1) u] = .ok (.nop, rest) :=
  ⟨{ State.reset with haltBug := true }, _, by decide, by decide, by decide, by decide, rfl⟩

/-- A state with the VBlank and Timer interrupts enabled and requested. -/
def requested : State := { State.reset with ieReg := 0x1F, ifReg := 0x05 }

theorem witness_InterruptCheckOpensStep : pending State.reset = 0 ∧ (pending requested ≠ 0 ∧ requested.ime = false) ∧
    (pending requested ≠ 0 ∧ { requested with ime := true }.ime = true) := by decide
theorem witness_InterruptDispatch : FirstPending 0 requested ∧ FirstPending 4 { requested with ifReg := 0x10 } := by
  decide
theorem witness_HaltedStepAdvancesDevices : blocked { State.reset with halted := true } = none ∧
    { State.reset with halted := true }.halted = true ∧ pending { State.reset with halted := true } = 0 := by decide
theorem witness_BlockedStatesTakeNoStep : { State.reset with fault := some ⟨0xD3, 0⟩ }.fault.isSome = true ∧
    { State.reset with stopped := true }.stopped = true ∧ { State.reset with shutdown := true }.shutdown = true ∧
    (State.reset.fault = none ∧ State.reset.stopped = false ∧ State.reset.shutdown = false) := by decide

theorem witness_EiCommitsAfterNextInstruction :
    (RunsNext { State.reset with imeScheduled := true } ∧ Fetches { State.reset with imeScheduled := true } .nop ∧
      Instr.nop.illegalOpcode = none ∧ Instr.nop ≠ .di) ∧
    (RunsNext (code 0xC000 [0xF3]) ∧ Fetches (code 0xC000 [0xF3]) .di ∧ Instr.di.illegalOpcode = none) ∧
    (RunsNext (code 0xC000 [0xFB]) ∧ Fetches (code 0xC000 [0xFB]) .ei ∧ (code 0xC000 [0xFB]).imeScheduled = false) ∧
    (RunsNext State.reset ∧ Fetches State.reset .nop ∧ State.reset.imeScheduled = false ∧
      Instr.nop ≠ .ei ∧ Instr.nop ≠ .reti) :=
  ⟨⟨by decide, ⟨_, rfl⟩, by decide, by decide⟩, ⟨by decide, ⟨_, rfl⟩, by decide⟩, ⟨by decide, ⟨_, rfl⟩, by decide⟩,
    ⟨by decide, ⟨_, rfl⟩, by decide, by decide, by decide⟩⟩

theorem witness_LatchWriters : ∃ t, Instr.wellFormed .nop = true ∧ exec .nop State.reset = .next t ∧
    Instr.nop ≠ .di ∧ Instr.nop ≠ .halt ∧ ∀ n, Instr.nop ≠ .stopN8 n := ⟨_, rfl, rfl, nofun, nofun, nofun⟩
theorem witness_LoadRegister : R8.a ≠ .atHl ∧ R8.l ≠ .atHl ∧ R8.b ≠ .a := by decide
theorem witness_StoreAtHl : R8.h ≠ .atHl ∧ R8.a ≠ .atHl := by decide
theorem witness_PushThenPopRestores : plainRam (0xE000#16 - 1) ∧ plainRam (0xE000#16 - 2) ∧
    plainRam (0xFFFF#16 - 1) ∧ plainRam (0xFFFF#16 - 2) := by decide
theorem witness_DaaScfAndCcf : flagN (af 0x7D 0x00) = false ∧ flagN (af 0x0F 0x60) = true := by decide
theorem witness_DecimalAdjustIsDecimal : 45 < 100 ∧ 99 < 100 ∧ (af (bcd 45) 0x10).a = bcd 45 := by decide
theorem witness_RotatesAndShifts :
    (RotOp.rr, Instr.rra) ∈ [(RotOp.rlc, Instr.rlca), (.rrc, .rrca), (.rl, .rla), (.rr, .rra)] := by decide
theorem witness_HaltOrHaltBug : (State.reset.ime = true ∨ ∀ i, i < 5 →
      ¬(State.reset.ieReg.getLsbD i = true ∧ State.reset.ifReg.getLsbD i = true)) ∧
    (requested.ime = false ∧ ∃ i, i < 5 ∧ requested.ieReg.getLsbD i = true ∧ requested.ifReg.getLsbD i = true) :=
  ⟨.inr fun i _ h => by simpa using (show (0#5).getLsbD i = true from h.1), rfl, 0, by decide, by decide, by decide⟩
theorem witness_PrefixRunsCbInstruction : State.reset.haltBug = false ∧
    { State.reset with haltBug := true }.haltBug = true := by decide
theorem witness_CyclesOfTable : Instr.wellFormed .retNz = true ∧ Instr.retNz.illegalOpcode = none := by decide
theorem witness_InstructionMemoryFrame : ∃ t, exec .ldAtHlB (hl 0xC000 0x01) = .next t ∧
    ∀ x ∈ storedAt .ldAtHlB (hl 0xC000 0x01), reaches (hl 0xC000 0x01) x 0xC001 = false :=
  ⟨_, rfl, fun x hx => by
    have e : x = 0xC000 := List.mem_singleton.1 hx
    rw [e]
    decide⟩

theorem witness_RamAndEchoReadBack : (0xC000 ≤ (0xC000#16).toNat ∧ (0xC000#16).toNat ≤ 0xDFFF) ∧
    (0xE000 ≤ (0xFDFF#16).toNat ∧ (0xFDFF#16).toNat ≤ 0xFDFF) ∧
    (0xFF80 ≤ (0xFFFE#16).toNat ∧ (0xFFFE#16).toNat ≤ 0xFFFE) := by decide

/-- A state in DRAW with the LCD on, and one with the LCD off. -/
def drawing : State := { State.reset with ppu := { State.reset.ppu with mode := .draw } }
def lcdOff : State := { State.reset with ppu := Ppu.reset }

theorem witness_VideoMemoryGating :
    (0x8000 ≤ (0x9FFF#16).toNat ∧ (0x9FFF#16).toNat ≤ 0x9FFF ∧ drawing.ppu.lcdOn = true ∧ drawing.ppu.mode = .draw) ∧
    ¬(lcdOff.ppu.lcdOn = true ∧ lcdOff.ppu.mode = .draw) ∧
    (0xFE00 ≤ (0xFE9F#16).toNat ∧ (0xFE9F#16).toNat ≤ 0xFE9F ∧ State.reset.ppu.lcdOn = true ∧
      State.reset.ppu.mode = .oamScan) ∧
    ¬(lcdOff.dma.active = true ∨ lcdOff.ppu.lcdOn = true ∧ (lcdOff.ppu.mode = .oamScan ∨ lcdOff.ppu.mode = .draw)) := by
  decide
theorem witness_UnmappedReadsOpenBus : 0xFEA0 ≤ (0xFEA0#16).toNat ∧ (0xFEFF#16).toNat ≤ 0xFEFF ∧
    (0xFF03#16).toNat = 0xFF03 ∧ 0xFF08 ≤ (0xFF0E#16).toNat ∧ 0xFF4C ≤ (0xFF4C#16).toNat ∧
    0xFF51 ≤ (0xFF7F#16).toNat ∧ (0xFF7F#16).toNat ≤ 0xFF7F := by decide
theorem witness_CartridgeBanking : (cart .mbc1).cart.family ≠ .none ∧ (0x1FFF#16).toNat ≤ 0x1FFF ∧
    (0x2000 ≤ (0x3FFF#16).toNat ∧ (0x3FFF#16).toNat ≤ 0x3FFF) ∧ (cart .mbc1).bootVisible = false ∧
    (0x4000 ≤ (0x7FFF#16).toNat ∧ (0x7FFF#16).toNat ≤ 0x7FFF) := by decide

/-- The MBC1 cartridge with its RAM enabled. -/
def ramEnabled : State := busWrite 0x0000 0x0A (cart .mbc1)

theorem witness_ExternalRam : 0xA000 ≤ (0xBFFF#16).toNat ∧ (0xBFFF#16).toNat ≤ 0xBFFF ∧
    ((cart .mbc1).cart.family ≠ .mbc2 ∧ (cart .mbc1).cart.family ≠ .mbc3 ∧ (cart .mbc1).cart.family ≠ .none ∧
      (cart .mbc1).cart.ramEnable = false) ∧
    (ramEnabled.cart.family ≠ .mbc2 ∧ ramEnabled.cart.family ≠ .mbc3 ∧ ramEnabled.cart.ramEnable = true ∧
      ramEnabled.cart.nram ≠ 0) ∧
    ((cart .mbc3).cart.family = .mbc3 ∧ (cart .mbc3).cart.rtcSel = none) := by decide
theorem witness_DividerCounts : 255 ≤ 255 ∧ 256 = 256 := by decide

/-- A state with the timer at TAC 5, TIMA 0xFE. -/
def timing : State := { State.reset with timer := ⟨0, 0xFE, 0x10, 5, 0⟩ }

/-- Off; on without an overflow (16 T-cycles); on with one (32 T-cycles). -/
theorem witness_TimaCountsAndReloads : State.reset.timer.tac.getLsbD 2 = false ∧ timing.timer.tac.getLsbD 2 = true ∧
    16 = (match timing.timer.tac.toNat % 4 with | 0 => 1024 | 1 => 16 | 2 => 64 | _ => 256) ∧
    timing.timer.tima.toNat + (timing.timer.timaAcc + 16) / 16 ≤ 255 ∧
    255 < timing.timer.tima.toNat + (timing.timer.timaAcc + 32) / 16 ∧
    timing.timer.tima.toNat + (timing.timer.timaAcc + 32) / 16 - 256 + timing.timer.tma.toNat ≤ 255 := by decide

/-- A serial transfer on the internal clock. -/
def sending : State := { State.reset with serial := ⟨0x42, true, true, 4090⟩ }

theorem witness_SerialTransferCompletes : ¬(State.reset.serial.sc7 = true ∧ State.reset.serial.sc0 = true) ∧
    sending.serial.sc7 = true ∧ sending.serial.sc0 = true ∧ sending.serial.serialAcc + 5 < 4096 ∧
    4096 ≤ sending.serial.serialAcc + 6 := by decide
theorem witness_OamDmaCopies : State.reset.dma.active = false ∧
    (busWrite 0xFF46 0xC0 State.reset).dma.active = true ∧ (busWrite 0xFF46 0xC0 State.reset).dma.index < 160 ∧
    { State.reset with dma := ⟨0xC0, true, 159, 3⟩ }.dma.index < 160 := by decide
theorem witness_LcdSwitch : (State.reset.ppu.lcdOn = true ∧ bit 0x11 7 = false) ∧
    (lcdOff.ppu.lcdOn = false ∧ bit 0x91 7 = true) ∧ State.reset.ppu.lcdOn = bit 0x91 7 := by decide
theorem witness_VblankEntry : ∃ p : Ppu, p.mode = .hblank ∧ 455 ≤ p.lineCycles ∧ 143 ≤ p.ly.toNat :=
  ⟨{ State.reset.ppu with mode := .hblank, lineCycles := 455, ly := 143 }, by decide⟩
/-- R33: the restore masks F. -/
theorem test_snapshot_masks_f :
    (restoreSnapshot { takeSnapshot State.reset with f := 0xFF } State.reset).f = 0xF0 := by decide

/-- An eleventh record on the line is left out for the ten before it. -/
theorem witness_OamScanSelectsAndSorts : ∃ p : Ppu, 39 < 40 ∧ p.onLine (p.oamRecord 39) = true ∧
    p.oamRecord 39 ∉ p.oamScan ∧ p.oamScan.length = 10 ∧ ∀ s ∈ p.oamScan, s.index < 39 :=
  ⟨{ Ppu.reset with oam := (List.range 10).map (fun k => (4 * k, 16#8)) ++ [(156, 16)] }, by decide⟩

/-- The reset state meets every invariant and takes a step. -/
theorem witness_invariants_kept : ∃ t, step State.reset = .next t ∧ FlagsClean State.reset ∧
    MemoriesCanonical State.reset ∧ MemoriesInRange State.reset ∧ DevicesInRange State.reset ∧
    RomBankNonzero State.reset ∧ PpuInRange State.reset.ppu ∧ LcdOffInHblank State.reset.ppu ∧
    CoincidenceExact State.reset.ppu ∧ State.reset.bootVisible = false :=
  ⟨_, rfl, by decide, by decide, by decide, by decide, by decide, by decide, by decide, by decide, rfl⟩

end Sys2Proof.Tests
end

/-! PROOFS. Work RAM, echo RAM and high RAM (R84, R85, R91): the cell the address decoder gives each address,
what the bus does at such a cell, and from both the obligation O39. -/

namespace Sys2Proof.Machine

/-! ### The decoder on the RAM ranges -/

theorem region_of_workRam {x : Word} (lo : 0xC000 ≤ x.toNat) (hi : x.toNat ≤ 0xDFFF) :
    region x = .wram (x.toNat - 0xC000) := by
  unfold region
  simp only
  rw [if_neg (by omega), if_neg (by omega), if_neg (by omega), if_pos hi]

theorem region_of_echoRam {x : Word} (lo : 0xE000 ≤ x.toNat) (hi : x.toNat ≤ 0xFDFF) :
    region x = .wram (x.toNat - 0xE000) := by
  unfold region
  simp only
  rw [if_neg (by omega), if_neg (by omega), if_neg (by omega), if_neg (by omega), if_pos hi]

theorem region_of_highRam {x : Word} (lo : 0xFF80 ≤ x.toNat) (hi : x.toNat ≤ 0xFFFE) :
    region x = .hram (x.toNat - 0xFF80) := by
  unfold region
  simp only
  rw [if_neg (by omega), if_neg (by omega), if_neg (by omega), if_neg (by omega), if_neg (by omega),
    if_neg (by omega), if_neg (by omega), if_neg (by omega), if_pos hi]

/-- An echo address and the address 0x2000 below it are one cell of work RAM (R85). -/
theorem region_echoRam_mirror {x : Word} (lo : 0xE000 ≤ x.toNat) (hi : x.toNat ≤ 0xFDFF) :
    region (x - 0x2000) = region x := by
  have mirror : (x - 0x2000).toNat = x.toNat - 0x2000 := by bv_omega
  rw [region_of_echoRam lo hi, region_of_workRam (by omega) (by omega), mirror, Nat.sub_sub]

/-! ### The bus at a RAM cell -/

section
variable {x y : Word} {i : Nat}

theorem busRead_of_wram (h : region x = .wram i) (s : State) : busRead x s = memRead s.wram i := by
  simp only [busRead, h]

theorem busWrite_of_wram (h : region x = .wram i) (v : Byte) (s : State) :
    busWrite x v s = { s with wram := memWrite s.wram i v } := by
  simp only [busWrite, h]

theorem busRead_of_hram (h : region x = .hram i) (s : State) : busRead x s = memRead s.hram i := by
  simp only [busRead, h]

theorem busWrite_of_hram (h : region x = .hram i) (v : Byte) (s : State) :
    busWrite x v s = { s with hram := memWrite s.hram i v } := by
  simp only [busWrite, h]

/-- A byte written to a cell of work RAM is read at every address of that cell. -/
theorem busRead_busWrite_of_wram (hx : region x = .wram i) (hy : region y = .wram i) (v : Byte) (s : State) :
    busRead y (busWrite x v s) = v := by
  rw [busWrite_of_wram hx, busRead_of_wram hy, memRead_memWrite_self]

theorem busRead_busWrite_of_hram (h : region x = .hram i) (v : Byte) (s : State) :
    busRead x (busWrite x v s) = v := by
  rw [busWrite_of_hram h, busRead_of_hram h, memRead_memWrite_self]

end

/-- Settles O39: the decoder gives each range its cell, and a write is read back at every address of its cell. -/
theorem ramAndEchoReadBack : Obligations.RamAndEchoReadBack := by
  unfold Obligations.RamAndEchoReadBack
  intro x v s
  refine ⟨fun lo hi => ?work, fun lo hi => ?echo, fun lo hi => ?high⟩
  case work =>
    have cell := region_of_workRam lo hi
    exact ⟨busRead_of_wram cell s, busWrite_of_wram cell v s, busRead_busWrite_of_wram cell cell v s⟩
  case echo =>
    have cell := region_of_echoRam lo hi
    have mirror := (region_echoRam_mirror lo hi).trans cell
    exact ⟨busRead_of_wram cell s, busWrite_of_wram cell v s, busRead_busWrite_of_wram cell mirror v s,
      busRead_busWrite_of_wram mirror cell v s⟩
  case high =>
    have cell := region_of_highRam lo hi
    exact ⟨busRead_of_hram cell s, busWrite_of_hram cell v s, busRead_busWrite_of_hram cell v s⟩

end Sys2Proof.Machine

/-! PROOFS. CPL (R265): its byte, the state it leaves, and from both the obligation O27. -/

namespace Sys2Proof.Machine

/-- The byte 0x2F is CPL, whatever bytes stand after it. -/
theorem decodeBytes_cpl (b1 b2 : Byte) : decodeBytes 0x2F b1 b2 = .cpl := rfl

theorem opLength_cpl : opLength 0x2F = 1 := by decide

/-- CPL is the accumulator operation 5 of the opcode grid. -/
theorem exec_cpl (s : State) : exec .cpl s = .next (tick 4 (accOp 5 s)) := exec_mkAccRot s 5

theorem accOp_cpl_a (s : State) : (accOp 5 s).a = ~~~s.a := rfl

theorem accOp_cpl_f (s : State) : (accOp 5 s).f = packFlags (flagZ s) true true (flagC s) := rfl

/-- CPL writes A and F and nothing else. -/
theorem accOp_cpl_frame (s : State) : accOp 5 s = { s with a := (accOp 5 s).a, f := (accOp 5 s).f } := rfl

/-- Settles O27: CPL writes only A and F; inverting a byte subtracts it from 255, and F is packed from the
old Z and C. -/
theorem complementAccumulator : Obligations.ComplementAccumulator := by
  unfold Obligations.ComplementAccumulator
  intro b1 b2 s
  refine ⟨decodeBytes_cpl b1 b2, opLength_cpl, tick 4 (accOp 5 s), exec_cpl s, ?frame, ?a, ?flags⟩
  case frame => exact congrArg (tick 4) (accOp_cpl_frame s)
  case a => exact (congrArg BitVec.toNat (accOp_cpl_a s)).trans BitVec.toNat_not
  case flags => exact flagsAre_of_pack (accOp_cpl_f s)

end Sys2Proof.Machine

/-! PROOFS. The 16-bit sums: ADD HL,rr (R290), ADD SP,e8 (R293) and LD HL,SP+e8 (R224), with the low-byte flags
of R294. The bytes of each, the state it leaves, and from both the obligations O18 and O28. -/

namespace Sys2Proof.Machine

/-- The accumulated cycles are no part of HL. -/
@[simp] theorem getHl_tick (n : Nat) (s : State) : getHl (tick n s) = getHl s := rfl

/-! ### `ADD HL,rr` -/

/-- The bytes 00 pp1 001 are ADD HL of the pair `pp`, whatever bytes stand after them. -/
theorem decodeBytes_addHl (b1 b2 : Byte) :
    decodeBytes 0x09 b1 b2 = .mkAddHl .bc ∧ decodeBytes 0x19 b1 b2 = .mkAddHl .de ∧
      decodeBytes 0x29 b1 b2 = .mkAddHl .hl ∧ decodeBytes 0x39 b1 b2 = .mkAddHl .sp :=
  ⟨rfl, rfl, rfl, rfl⟩

theorem opLength_addHl : ∀ b : Byte, b ∈ [0x09#8, 0x19#8, 0x29#8, 0x39#8] → opLength b = 1 := by decide

section
variable (v : Word) (s : State)

@[simp] theorem getHl_addHl : getHl (addHl v s) = getHl s + v := getHl_setHl (getHl s + v) s

theorem addHl_f :
    (addHl v s).f = packFlags (flagZ s) false (carry12 (getHl s) v) (carry16 (getHl s) v) := rfl

/-- ADD HL writes H, L and F and nothing else. -/
theorem addHl_frame :
    addHl v s = { s with h := (addHl v s).h, l := (addHl v s).l, f := (addHl v s).f } := rfl

end

/-- Settles O28: ADD HL,rr is `addHl` at the pair's value from before, so HL gets the sum of two words, and F
the old Z and the carries out of bits 11 and 15. -/
theorem addToHl : Obligations.AddToHl := by
  unfold Obligations.AddToHl
  refine ⟨decodeBytes_addHl, opLength_addHl, fun rr s => ?_⟩
  refine ⟨tick 8 (addHl (readRr rr s) s), exec_mkAddHl s rr, ?frame, ?sum, ?flags⟩
  case frame => exact congrArg (tick 8) (addHl_frame (readRr rr s) s)
  case sum => rw [getHl_tick, getHl_addHl, BitVec.toNat_add]
  case flags => exact flagsAre_of_pack (addHl_f (readRr rr s) s)

/-! ### The stack pointer plus a signed offset -/

/-- The bytes 0xE8 and 0xF8 take the byte after them as the offset. -/
theorem decodeBytes_spPlusE8 (e b2 : Byte) :
    decodeBytes 0xE8 e b2 = .addSpE8 e ∧ decodeBytes 0xF8 e b2 = .ldHlSpE8 e := ⟨rfl, rfl⟩

theorem opLength_spPlusE8 : opLength 0xE8 = 2 ∧ opLength 0xF8 = 2 := by decide

section
variable (e : Byte) (s : State)

theorem exec_addSpE8 : exec (.addSpE8 e) s = .next (tick 16 (addSp e s)) := rfl

theorem exec_ldHlSpE8 : exec (.ldHlSpE8 e) s = .next (tick 12 (loadHlSp e s)) := rfl

theorem addSp_sp : (addSp e s).sp = s.sp + sext16 e := rfl

@[simp] theorem getHl_loadHlSp : getHl (loadHlSp e s) = s.sp + sext16 e := getHl_setHl (s.sp + sext16 e) s

theorem addSp_f : (addSp e s).f = packFlags false false (decide (s.sp.toNat % 16 + e.toNat % 16 > 15))
    (decide (s.sp.toNat % 256 + e.toNat > 255)) := rfl

/-- LD HL,SP+e8 leaves the flags of ADD SP,e8. -/
theorem loadHlSp_f : (loadHlSp e s).f = (addSp e s).f := rfl

/-- ADD SP,e8 writes SP and F and nothing else. -/
theorem addSp_frame : addSp e s = { s with sp := (addSp e s).sp, f := (addSp e s).f } := rfl

/-- LD HL,SP+e8 writes H, L and F and nothing else. -/
theorem loadHlSp_frame : loadHlSp e s =
    { s with h := (loadHlSp e s).h, l := (loadHlSp e s).l, f := (loadHlSp e s).f } := rfl

end

/-- Settles O18: both instructions compute one signed sum and one pair of low-byte carries; ADD SP,e8 leaves
the sum in SP and LD HL,SP+e8 in HL. -/
theorem stackPointerPlusOffset : Obligations.StackPointerPlusOffset := by
  unfold Obligations.StackPointerPlusOffset
  intro e b2 s
  have ⟨addBytes, loadBytes⟩ := decodeBytes_spPlusE8 e b2
  have ⟨addLength, loadLength⟩ := opLength_spPlusE8
  have sum := add_sext16_toNat s.sp e
  refine ⟨⟨addBytes, addLength, loadBytes, loadLength⟩,
    ⟨tick 16 (addSp e s), exec_addSpE8 e s, ?addFrame, ?addSum, ?addFlags⟩,
    ⟨tick 12 (loadHlSp e s), exec_ldHlSpE8 e s, ?loadFrame, ?loadSum, ?loadFlags⟩⟩
  case addFrame => exact congrArg (tick 16) (addSp_frame e s)
  case addSum => rw [tick_sp, addSp_sp, sum]
  case addFlags => exact flagsAre_of_pack (addSp_f e s)
  case loadFrame => exact congrArg (tick 12) (loadHlSp_frame e s)
  case loadSum => rw [getHl_tick, getHl_loadHlSp, sum]
  case loadFlags => exact flagsAre_of_pack ((loadHlSp_f e s).trans (addSp_f e s))

end Sys2Proof.Machine

/-! PROOFS. The divider (R48, R440): DIV on the bus, the counter through the timer's step, and from both the
obligation O45. -/

namespace Sys2Proof.Machine

/-! ### DIV on the bus -/

theorem region_div : region 0xFF04 = .io .div := by decide

theorem busRead_div (s : State) : busRead 0xFF04 s = hi8 s.timer.divCounter := by
  simp only [busRead, region_div, ioRead, Timer.readDiv]

theorem busWrite_div (v : Byte) (s : State) :
    busWrite 0xFF04 v s = { s with timer := { s.timer with divCounter := 0 } } := by
  simp only [busWrite, region_div, ioWrite, Timer.writeDiv]

theorem busRead_div_toNat (s : State) : (busRead 0xFF04 s).toNat = s.timer.divCounter.toNat / 256 := by
  have bound := s.timer.divCounter.isLt
  rw [busRead_div, hi8_eq, BitVec.toNat_ofNat, Nat.mod_eq_of_lt (by omega)]

/-! ### The counter through a timer step -/

/-- Neither branch of an increment, the reload included, writes the divider (R442). -/
@[simp] theorem timaIncrement_divCounter (t : Timer) : (timaIncrement t).1.divCounter = t.divCounter := by
  unfold timaIncrement
  split <;> rfl

@[simp] theorem timaIncrements_divCounter (n : Nat) (t : Timer) :
    (timaIncrements n t).1.divCounter = t.divCounter := by
  induction n generalizing t with
  | zero => rfl
  | succ n ih => exact (ih (timaIncrement t).1).trans (timaIncrement_divCounter t)

/-- The counter is advanced before TAC is looked at, and TIMA's increments leave it alone. -/
theorem timerStep_divCounter (c : Nat) (t : Timer) :
    (timerStep c t).1.divCounter = t.divCounter + BitVec.ofNat 16 c := by
  unfold timerStep
  simp only
  split
  case isTrue => exact timaIncrements_divCounter _ _
  case isFalse => rfl

theorem stepTimer_divCounter_toNat (c : Nat) (s : State) :
    (stepTimer c s).timer.divCounter.toNat = (s.timer.divCounter.toNat + c) % 65536 := by
  rw [stepTimer_eq, timerStep_divCounter, BitVec.toNat_add, BitVec.toNat_ofNat, Nat.add_mod_mod]

/-- After a write to DIV the counter holds just the T-cycles since, modulo 2^16, and DIV reads their upper byte. -/
theorem busRead_div_stepTimer_busWrite_div (c : Nat) (v : Byte) (s : State) :
    (busRead 0xFF04 (stepTimer c (busWrite 0xFF04 v s))).toNat = c % 65536 / 256 := by
  have cleared : (busWrite 0xFF04 v s).timer.divCounter.toNat = 0 := by
    rw [busWrite_div]
    rfl
  rw [busRead_div_toNat, stepTimer_divCounter_toNat, cleared, Nat.zero_add]

/-- Settles O45: the step adds its T-cycles to the counter, DIV is the counter divided by 256, and from the
zero a write leaves, that quotient is 0 up to 255 T-cycles and 1 at 256. -/
theorem dividerCounts : Obligations.DividerCounts := by
  unfold Obligations.DividerCounts
  intro c v s
  have sinceWrite := busRead_div_stepTimer_busWrite_div c v s
  refine ⟨stepTimer_divCounter_toNat c s, busRead_div_toNat s, busWrite_div v s, fun below => ?zero, fun full => ?one⟩
  case zero =>
    have quotient : c % 65536 / 256 = 0 := by omega
    exact BitVec.eq_of_toNat_eq (sinceWrite.trans quotient)
  case one =>
    have quotient : c % 65536 / 256 = 1 := by omega
    exact BitVec.eq_of_toNat_eq (sinceWrite.trans quotient)

end Sys2Proof.Machine


/-! PROOFS. The round trips of the codec (R160..R174): what the decoder takes from a byte string by the length of
its instruction, what the encoder writes for each family, and from both the obligations O1 and O2. -/

namespace Sys2Proof

/-! ### The decoder by the length of the instruction -/

section
variable {b0 : Byte}

/-- A one-byte instruction is not 0xCB's, which has two bytes. -/
theorem ne_prefix_of_opLength_one (h : opLength b0 = 1) : b0 ≠ 0xCB#8 := by
  rintro rfl
  exact absurd h (by decide)

theorem decode_one (h : opLength b0 = 1) (rest : List Byte) :
    decode (b0 :: rest) = .ok (decodeBytes b0 0 0, rest) := by
  have enough : ¬ rest.length + 1 < opLength b0 := by omega
  rw [decode, if_neg (fun e => ne_prefix_of_opLength_one h e.1), if_neg enough, h, ← decodeBytes_one h]
  rfl

theorem decode_two (h : opLength b0 = 2) (b1 : Byte) (rest : List Byte) :
    decode (b0 :: b1 :: rest) = .ok (decodeBytes b0 b1 0, rest) := by
  have enough : ¬ (b1 :: rest).length + 1 < opLength b0 := by rw [h, List.length_cons]; omega
  rw [decode, if_neg (fun e => List.cons_ne_nil _ _ e.2), if_neg enough, h, decodeBytes_two h]
  rfl

theorem decode_three (h : opLength b0 = 3) (b1 b2 : Byte) (rest : List Byte) :
    decode (b0 :: b1 :: b2 :: rest) = .ok (decodeBytes b0 b1 b2, rest) := by
  have enough : ¬ (b1 :: b2 :: rest).length + 1 < opLength b0 := by
    rw [h, List.length_cons, List.length_cons]; omega
  rw [decode, if_neg (fun e => List.cons_ne_nil _ _ e.2), if_neg enough, h]
  rfl

end

/-! ### What the encoder writes -/

/-- The bytes are one whole instruction `i`: as many as the first of them announces, and decoded to `i`. -/
inductive IsCode (i : Instr) : List Byte → Prop where
  | one (b0 : Byte) (len : opLength b0 = 1) (dec : decodeBytes b0 0 0 = i) : IsCode i [b0]
  | two (b0 b1 : Byte) (len : opLength b0 = 2) (dec : decodeBytes b0 b1 0 = i) : IsCode i [b0, b1]
  | three (b0 b1 b2 : Byte) (len : opLength b0 = 3) (dec : decodeBytes b0 b1 b2 = i) : IsCode i [b0, b1, b2]

/-- The decoder reads one whole instruction and leaves what follows it. -/
theorem IsCode.decode_append {i : Instr} {code : List Byte} (h : IsCode i code) (rest : List Byte) :
    decode (code ++ rest) = .ok (i, rest) := by
  cases h with
  | one b0 len dec => exact dec ▸ decode_one len rest
  | two b0 b1 len dec => exact dec ▸ decode_two len b1 rest
  | three b0 b1 b2 len dec => exact dec ▸ decode_three len b1 b2 rest

/-- A little-endian operand put together again is the word it was taken from. -/
theorem append_extract (w : Word) : w.extractLsb' 8 8 ++ w.extractLsb' 0 8 = w := Machine.pair_hi8_lo8 w

/-- A three-byte code, its operand written low byte first (R166). -/
theorem IsCode.word {f : Word → Instr} {b0 : Byte} (len : opLength b0 = 3)
    (dec : ∀ b1 b2, decodeBytes b0 b1 b2 = f (b2 ++ b1)) (w : Word) :
    IsCode (f w) [b0, w.extractLsb' 0 8, w.extractLsb' 8 8] :=
  .three _ _ _ len ((dec _ _).trans (congrArg f (append_extract w)))

/-- What the encoder writes for a whole instruction is its code, family by family. -/
theorem isCode_encode (i : Instr) : i.wellFormed = true → IsCode i (encode i) := by
  revert i
  apply Instr.byFamily
  case ld => intro dst r h _; cases dst <;> cases r <;> exact .one _ (by decide) rfl
  case ldN => intro r n _; cases r <;> exact .two _ _ (by decide) rfl
  case alu => intro op r _; cases op <;> cases r <;> exact .one _ (by decide) rfl
  case aluN => intro op n _; cases op <;> exact .two _ _ (by decide) rfl
  case inc => intro r _; cases r <;> exact .one _ (by decide) rfl
  case dec => intro r _; cases r <;> exact .one _ (by decide) rfl
  case acc => intro y _; fin_cases y <;> exact .one _ (by decide) rfl
  case ldRr => intro rr n _; cases rr <;> exact .word (by decide) (fun _ _ => rfl) n
  case addHl => intro rr _; cases rr <;> exact .one _ (by decide) rfl
  case incRr => intro rr _; cases rr <;> exact .one _ (by decide) rfl
  case decRr => intro rr _; cases rr <;> exact .one _ (by decide) rfl
  case push => intro q _; cases q <;> exact .one _ (by decide) rfl
  case pop => intro q _; cases q <;> exact .one _ (by decide) rfl
  case jrCc => intro cc e _; cases cc <;> exact .two _ _ (by decide) rfl
  case jpCc => intro cc a _; cases cc <;> exact .word (by decide) (fun _ _ => rfl) a
  case callCc => intro cc a _; cases cc <;> exact .word (by decide) (fun _ _ => rfl) a
  case retCc => intro cc _; cases cc <;> exact .one _ (by decide) rfl
  case rst => intro y _; fin_cases y <;> exact .one _ (by decide) rfl
  case rot => intro k r _; cases k <;> cases r <;> exact .two _ _ (by decide) rfl
  case bitTest => intro n r _; fin_cases n <;> cases r <;> exact .two _ _ (by decide) rfl
  case res => intro n r _; fin_cases n <;> cases r <;> exact .two _ _ (by decide) rfl
  case set => intro n r _; fin_cases n <;> cases r <;> exact .two _ _ (by decide) rfl
  case illegal =>
    intro i op h _
    cases i <;> cases h <;> exact .one _ (by decide) rfl
  case prefixCb => exact nofun
  case ldAtA16Sp | jpA16 | callA16 | ldAtA16A | ldAAtA16 =>
    intro a _; exact .word (by decide) (fun _ _ => rfl) a
  case stopN8 | jrE8 | ldhAtA8A | addSpE8 | ldhAAtA8 | ldHlSpE8 => intro n _; exact .two _ _ (by decide) rfl
  all_goals exact fun _ => .one _ (by decide) rfl

/-- Settles O1: what the encoder writes is one whole code, and the decoder reads such a code whatever follows. -/
theorem decodeOfEncode : Obligations.DecodeOfEncode := by
  unfold Obligations.DecodeOfEncode
  intro i rest whole
  exact (isCode_encode i whole).decode_append rest

/-! ### What the decoder takes -/

/-- The decoder answers for the byte 0xCB at the very end, or for a byte whose operands are all there. -/
theorem decode_cases {bytes rest : List Byte} {i : Instr} (h : decode bytes = .ok (i, rest)) :
    (bytes = [0xCB] ∧ i = .prefixCb ∧ rest = []) ∨
    ∃ b0 tail, bytes = b0 :: tail ∧ opLength b0 ≤ tail.length + 1 ∧
      i = decodeBytes b0 (tail.getD 0 0) (tail.getD 1 0) ∧ rest = tail.drop (opLength b0 - 1) := by
  unfold decode at h
  split at h
  · cases h
  next b0 tail =>
    split_ifs at h with alone short
    · cases h
      exact .inl ⟨by rw [alone.1, alone.2]; rfl, rfl, rfl⟩
    · cases h
      exact .inr ⟨b0, tail, rfl, Nat.not_lt.1 short, rfl, rfl⟩

/-- The first bytes of a string, and the bytes after them. -/
theorem take_getD_append_drop {b0 : Byte} {tail : List Byte} (enough : opLength b0 ≤ tail.length + 1) :
    [b0, tail.getD 0 0, tail.getD 1 0].take (opLength b0) ++ tail.drop (opLength b0 - 1) = b0 :: tail := by
  rcases opLength_cases b0 with h | h | h <;> rw [h] at enough ⊢
  · rfl
  · match tail, enough with
    | _ :: _, _ => rfl
  · match tail, enough with
    | _ :: _ :: _, _ => rfl

/-- Settles O2: the byte 0xCB at the very end is its own code, and for every other answer the encoder writes back
the bytes the opcode announces, in front of those the decoder leaves. -/
theorem encodeOfDecode : Obligations.EncodeOfDecode := by
  unfold Obligations.EncodeOfDecode
  intro bytes rest i h
  rcases decode_cases h with ⟨rfl, rfl, rfl⟩ | ⟨b0, tail, rfl, enough, rfl, rfl⟩
  · rfl
  · rw [encode_decodeBytes, take_getD_append_drop enough]

end Sys2Proof

/-! PROOFS. The invariants of the machine: each is held against every change a step is made of (`step_keeps`).
F's low nibble (R33) is the CPU's own, so it is followed through the instructions. The obligations O56 to O60. -/

namespace Sys2Proof.Machine

/-! ### F's low nibble -/

section
variable {s t : State}

/-- F unchanged stays clean. -/
theorem FlagsClean.of_eq (h : FlagsClean s) (e : t.f = s.f) : FlagsClean t := by
  unfold FlagsClean at h ⊢
  rwa [e]

theorem flagsClean_of_pack {z n h c : Bool} (e : t.f = packFlags z n h c) : FlagsClean t := by
  unfold FlagsClean
  rw [e, packFlags_clean]

end

section
variable (s : State)

@[simp] theorem writeR8_f (r : R8) (v : Byte) : (writeR8 r v s).f = s.f := by
  cases r with
  | atHl => exact busWrite_f _ _ _
  | _ => rfl

@[simp] theorem writeRr_f (r : RR) (v : Word) : (writeRr r v s).f = s.f := by cases r <;> rfl

@[simp] theorem push16_f (v : Word) : (push16 v s).f = s.f := by simp [push16_eq]

@[simp] theorem callTo_f (a : Word) : (callTo a s).f = s.f := push16_f s s.pc

@[simp] theorem fetch8_f : (fetch8 s).2.f = s.f := by
  unfold fetch8
  simp only
  split <;> rfl

/-- Whatever the operation, the accumulator's flags are packed. -/
theorem alu_f (op : AluOp) (v : Byte) : (alu op v s).f =
    packFlags (aluFlagged op s.a v (flagC s)).z (aluFlagged op s.a v (flagC s)).n
      (aluFlagged op s.a v (flagC s)).h (aluFlagged op s.a v (flagC s)).c := by
  cases op <;> rfl

theorem accOp_flagsClean (y : Fin 8) : FlagsClean (accOp y s) := by
  match y with
  | 0 | 1 | 2 | 3 | 4 | 5 | 6 | 7 => exact flagsClean_of_pack rfl

/-- POP AF masks F (R228). -/
theorem popQq_flagsClean {s : State} (q : QQ) (h : FlagsClean s) : FlagsClean (popQq q s) := by
  cases q with
  | af => exact and_F0_clean _
  | _ => exact h

theorem branch_flagsClean {s t : State} {cc : Cond} {n m : Nat} (h : FlagsClean s) (e : t.f = s.f) :
    FlagsClean (branch cc n m s t) := by
  rcases branch_cases cc n m s t with k | k <;> rw [k]
  · exact FlagsClean.of_eq h e
  · exact h

theorem executeCb_flagsClean {s : State} (op : Byte) (h : FlagsClean s) : FlagsClean (executeCb op s) := by
  unfold executeCb
  simp only
  split
  · exact flagsClean_of_pack rfl
  · exact flagsClean_of_pack rfl
  · exact FlagsClean.of_eq h (writeR8_f s _ _)
  · exact FlagsClean.of_eq h (writeR8_f s _ _)

end

/-- Every instruction leaves F alone, packs it or masks it. -/
theorem exec_flagsClean (i : Instr) {s : State} (h : FlagsClean s) : ∃ t, exec i s = .next t ∧ FlagsClean t := by
  revert i
  apply Instr.byFamily
  case ld => exact fun dst r ne => ⟨_, exec_mkLd s dst r ne, FlagsClean.of_eq h (writeR8_f s _ _)⟩
  case ldN => exact fun r n => ⟨_, exec_mkLdN s r n, FlagsClean.of_eq h (writeR8_f s _ _)⟩
  case alu => exact fun op r => ⟨_, exec_mkAlu s op r, flagsClean_of_pack (alu_f s _ _)⟩
  case aluN => exact fun op n => ⟨_, exec_mkAluN s op n, flagsClean_of_pack (alu_f s _ _)⟩
  case inc => exact fun r => ⟨_, exec_mkInc s r, flagsClean_of_pack rfl⟩
  case dec => exact fun r => ⟨_, exec_mkDec s r, flagsClean_of_pack rfl⟩
  case acc => exact fun y => ⟨_, exec_mkAccRot s y, accOp_flagsClean s y⟩
  case ldRr => exact fun rr n => ⟨_, exec_mkLdRr s rr n, FlagsClean.of_eq h (writeRr_f s _ _)⟩
  case addHl => exact fun rr => ⟨_, exec_mkAddHl s rr, flagsClean_of_pack rfl⟩
  case incRr => exact fun rr => ⟨_, exec_mkIncRr s rr, FlagsClean.of_eq h (writeRr_f s _ _)⟩
  case decRr => exact fun rr => ⟨_, exec_mkDecRr s rr, FlagsClean.of_eq h (writeRr_f s _ _)⟩
  case push => exact fun q => ⟨_, exec_mkPush s q, FlagsClean.of_eq h (push16_f s _)⟩
  case pop => exact fun q => ⟨_, exec_mkPop s q, popQq_flagsClean q h⟩
  case jrCc => exact fun cc e => ⟨_, exec_mkJr s cc e, branch_flagsClean h rfl⟩
  case jpCc => exact fun cc a => ⟨_, exec_mkJp s cc a, branch_flagsClean h rfl⟩
  case callCc => exact fun cc a => ⟨_, exec_mkCall s cc a, branch_flagsClean h (callTo_f s a)⟩
  case retCc => exact fun cc => ⟨_, exec_mkRet s cc, branch_flagsClean h rfl⟩
  case rst => exact fun y => ⟨_, exec_mkRst s y, FlagsClean.of_eq h (callTo_f s (BitVec.ofNat 16 (8 * y.val)))⟩
  case rot => exact fun k r => ⟨_, exec_mkRot s k r, flagsClean_of_pack rfl⟩
  case bitTest => exact fun n r => ⟨_, exec_mkBit s n r, flagsClean_of_pack rfl⟩
  case res => exact fun n r => ⟨_, exec_mkRes s n r, FlagsClean.of_eq h (writeR8_f s _ _)⟩
  case set => exact fun n r => ⟨_, exec_mkSet s n r, FlagsClean.of_eq h (writeR8_f s _ _)⟩
  case illegal => exact fun i op ill => ⟨_, exec_illegal s ill, h⟩
  case addSpE8 | ldHlSpE8 => exact fun e => ⟨_, rfl, flagsClean_of_pack rfl⟩
  case halt => exact ⟨_, rfl, FlagsClean.of_eq h (by unfold enterHalt; split <;> rfl)⟩
  case prefixCb => exact ⟨_, rfl, executeCb_flagsClean _ (FlagsClean.of_eq h (fetch8_f s))⟩
  case callA16 => exact fun a => ⟨_, rfl, FlagsClean.of_eq h (callTo_f s a)⟩
  case ldAtBcA | ldAtDeA | ldAtHliA | ldAtHldA | ldhAtCA =>
    exact ⟨_, rfl, FlagsClean.of_eq h (busWrite_f _ _ _)⟩
  case ldhAtA8A | ldAtA16A => exact fun a => ⟨_, rfl, FlagsClean.of_eq h (busWrite_f _ _ _)⟩
  case ldAtA16Sp => exact fun a => ⟨_, rfl, FlagsClean.of_eq h ((busWrite_f _ _ _).trans (busWrite_f _ _ _))⟩
  case stopN8 | jrE8 | jpA16 | ldhAAtA8 | ldAAtA16 => exact fun _ => ⟨_, rfl, h⟩
  all_goals exact ⟨_, rfl, h⟩

theorem interruptCheck_f (s : State) : (interruptCheck s).f = s.f := by
  unfold interruptCheck dispatchPending
  rw [releaseHalt_eq]
  split
  · rw [takeInterrupt_eq, tick_f, jumpTo_f, push16_f]
  · rfl

theorem fetchInstr_f (s : State) : (fetchInstr s).2.f = s.f := by
  unfold fetchInstr
  simp only
  split_ifs <;> simp only [fetch8_f]

theorem commitEi_f (w : Bool) (s : State) : (commitEi w s).f = s.f := by
  unfold commitEi
  split <;> rfl

theorem cpuStep_flagsClean {s t : State} (h : FlagsClean s) (hs : cpuStep s = .next t) : FlagsClean t := by
  have opened : FlagsClean (interruptCheck s) := FlagsClean.of_eq h (interruptCheck_f s)
  rcases cpuStep_cases hs with ⟨-, rfl⟩ | ⟨-, u, run, rfl⟩
  · exact opened
  · obtain ⟨u', run', clean⟩ := exec_flagsClean (fetchInstr (interruptCheck s)).1
      (FlagsClean.of_eq opened (fetchInstr_f _))
    cases run.symm.trans run'
    split
    · exact clean
    · exact FlagsClean.of_eq clean (commitEi_f _ u)

/-- The devices and the frame boundary leave F as it is. -/
theorem afterDevices_f (c : Nat) (s : State) : (frameBoundary (deviceSteps c s)).f = s.f := by
  rw [(frameBoundary_cpu _).1]
  change (deviceSteps c s).f = s.f
  rw [(deviceSteps_cpu c s).1]
  rfl

/-- Settles O56: an instruction leaves F alone, packs it or masks it, and the rest of a step does not write F. -/
theorem flagsCleanKept : Obligations.FlagsCleanKept := by
  unfold Obligations.FlagsCleanKept
  intro s t h hs
  obtain ⟨-, u, run, rfl⟩ := step_cases hs
  have clean := cpuStep_flagsClean h run
  split
  · exact clean
  · exact FlagsClean.of_eq clean (afterDevices_f u.cycles u)

/-! ### The canonical form of the memories -/

theorem dmaCopy_memoriesCanonical {s : State} (h : MemoriesCanonical s) : MemoriesCanonical (dmaCopy s) := by
  obtain ⟨hw, hh, ha, hv, ho, rest⟩ := h
  rw [dmaCopy_eq]
  exact ⟨hw, hh, ha, hv, Memory.wf_memWrite _ _ ho, rest⟩

theorem stepPpu_memoriesCanonical (d c : Nat) {s : State} (h : MemoriesCanonical s) :
    MemoriesCanonical { s with ppu := (ppuStep d c s.ppu).1 } := by
  obtain ⟨hw, hh, ha, hv, ho, hc, hd, rest⟩ := h
  have keeps := ppuStep_keeps d c s.ppu
  have frames := ppuStep_induct (P := fun p => Memory.wf p.fbCur = true ∧ Memory.wf p.fbDone = true) d c
    (fun p => dot_frames d) ⟨hc, hd⟩
  exact ⟨hw, hh, ha, keeps.vram ▸ hv, keeps.oam ▸ ho, frames.1, frames.2, rest⟩

/-- Settles O57: every write to an array is `memWrite`, which keeps the canonical form. -/
theorem memoriesCanonicalKept : Obligations.MemoriesCanonicalKept := by
  unfold Obligations.MemoriesCanonicalKept
  intro s t h hs
  refine step_keeps (P := MemoriesCanonical) ?cpu ?irq ?bus ?timer ?dma ?serial ?ppu ?frame h hs
  case bus => exact fun a v s => busWrite_memoriesCanonical a v
  case dma =>
    exact fun c s => stepDma_keeps (P := MemoriesCanonical) c (fun u _ => dmaCopy_memoriesCanonical) (fun _ _ h => h)
  case ppu => exact fun c s => stepPpu_memoriesCanonical s.params.spriteFetchDots c
  case cpu => exact fun _ _ h => h
  case irq => exact fun _ _ h => h
  case timer => exact fun _ _ h => h
  case serial => exact fun _ _ _ h => h
  case frame => exact fun _ _ _ _ h => h

/-! ### The sizes of the memories, the counters and the ROM bank -/

/-- The masked ROM bank is never 0 (R129). -/
theorem controlWrite_romBank {k : Cartridge} (a : Nat) (v : Byte) (h : k.romBank ≠ 0x00#8) :
    (k.controlWrite a v).romBank ≠ 0x00#8 := by
  unfold Cartridge.controlWrite
  split_ifs
  · exact h
  · exact h
  · unfold Cartridge.selectRom
    simp only
    split
    · decide
    · assumption
  · unfold Cartridge.selectRam
    split
    · exact h
    · exact h
    · exact h
    · split <;> exact h
    · exact h
  · exact h

/-- The selected bank's index is inside the RAM. -/
theorem ramIndex_lt (k : Cartridge) {a : Nat} (lo : 0xA000 ≤ a) (hi : a ≤ 0xBFFF) (banks : k.nram ≠ 0) :
    k.ramIndex a < k.nram * 0x2000 := by
  have bank : k.ramBank.toNat % k.nram < k.nram := Nat.mod_lt _ (Nat.pos_of_ne_zero banks)
  unfold Cartridge.ramIndex
  omega

/-- Every array inside its size, every counter inside its range, the ROM bank not 0. -/
abbrev StorageInRange (s : State) : Prop := MemoriesInRange s ∧ DevicesInRange s ∧ RomBankNonzero s

theorem busWrite_storageInRange (addr : Word) (v : Byte) {s : State} (h : StorageInRange s) :
    StorageInRange (busWrite addr v s) := by
  obtain ⟨⟨hw, hh, ha, hv, ho, hrom, hram, hm, hr⟩, ⟨ht, hs, hd⟩, hb⟩ := h
  have e := busWrite_effect addr v s
  generalize busWrite addr v s = t at e ⊢
  cases e with
  | nothing => exact ⟨⟨hw, hh, ha, hv, ho, hrom, hram, hm, hr⟩, ⟨ht, hs, hd⟩, hb⟩
  | control a _ =>
    obtain ⟨rom, ram, mbc2, rtc, nrom, nram, -⟩ := controlWrite_memories s.cart a v
    refine ⟨⟨hw, hh, ha, hv, ho, ?_, ?_, ?_, ?_⟩, ⟨ht, hs, hd⟩, controlWrite_romBank a v hb⟩
    · simpa only [rom, nrom] using hrom
    · simpa only [ram, nram] using hram
    · simpa only [mbc2] using hm
    · simpa only [rtc] using hr
  | vram i hi _ =>
    exact ⟨⟨hw, hh, ha, Memory.within_memWrite _ hi hv, ho, hrom, hram, hm, hr⟩, ⟨ht, hs, hd⟩, hb⟩
  | extRam a lo hi =>
    rcases ramWrite_cases s.cart a v with e | e | ⟨r, e⟩ | ⟨banks, e⟩ <;>
      simp only [StorageInRange, MemoriesInRange, RomBankNonzero, e]
    · exact ⟨⟨hw, hh, ha, hv, ho, hrom, hram, hm, hr⟩, ⟨ht, hs, hd⟩, hb⟩
    · exact ⟨⟨hw, hh, ha, hv, ho, hrom, hram, Memory.within_memWrite _ (Nat.mod_lt _ (by decide)) hm, hr⟩,
        ⟨ht, hs, hd⟩, hb⟩
    · exact ⟨⟨hw, hh, ha, hv, ho, hrom, hram, hm, Memory.within_memWrite _ r.isLt hr⟩, ⟨ht, hs, hd⟩, hb⟩
    · exact ⟨⟨hw, hh, ha, hv, ho, hrom, Memory.within_memWrite _ (ramIndex_lt _ lo hi banks) hram, hm, hr⟩,
        ⟨ht, hs, hd⟩, hb⟩
  | wram i hi => exact ⟨⟨Memory.within_memWrite _ hi hw, hh, ha, hv, ho, hrom, hram, hm, hr⟩, ⟨ht, hs, hd⟩, hb⟩
  | oam i hi _ => exact ⟨⟨hw, hh, ha, hv, Memory.within_memWrite _ hi ho, hrom, hram, hm, hr⟩, ⟨ht, hs, hd⟩, hb⟩
  | hram i hi => exact ⟨⟨hw, Memory.within_memWrite _ hi hh, ha, hv, ho, hrom, hram, hm, hr⟩, ⟨ht, hs, hd⟩, hb⟩
  | ie => exact ⟨⟨hw, hh, ha, hv, ho, hrom, hram, hm, hr⟩, ⟨ht, hs, hd⟩, hb⟩
  | io r hi =>
    cases r with
    | apu i =>
      exact ⟨⟨hw, hh, Memory.within_memWrite _ (hi i rfl) ha, hv, ho, hrom, hram, hm, hr⟩, ⟨ht, hs, hd⟩, hb⟩
    | lcdc =>
      obtain ⟨⟨vram, oam, -⟩, -⟩ := ppuWrite_memories s.ppu .store v
      exact ⟨⟨hw, hh, ha, vram.symm ▸ hv, oam.symm ▸ ho, hrom, hram, hm, hr⟩, ⟨ht, hs, hd⟩, hb⟩
    | sc => exact ⟨⟨hw, hh, ha, hv, ho, hrom, hram, hm, hr⟩, ⟨ht, (by decide : 0 < 4096), hd⟩, hb⟩
    | dma =>
      exact ⟨⟨hw, hh, ha, hv, ho, hrom, hram, hm, hr⟩,
        ⟨ht, hs, (by decide : 0 < 4), (by decide : 0 ≤ 160), fun _ => (by decide : 0 < 160)⟩, hb⟩
    | _ => exact ⟨⟨hw, hh, ha, hv, ho, hrom, hram, hm, hr⟩, ⟨ht, hs, hd⟩, hb⟩

@[simp] theorem timaIncrement_timaAcc (t : Timer) : (timaIncrement t).1.timaAcc = t.timaAcc := by
  unfold timaIncrement
  split <;> rfl

@[simp] theorem timaIncrements_timaAcc (n : Nat) (t : Timer) : (timaIncrements n t).1.timaAcc = t.timaAcc := by
  induction n generalizing t with
  | zero => rfl
  | succ n ih => exact (ih (timaIncrement t).1).trans (timaIncrement_timaAcc t)

/-- No period is 0 or longer than 1024 T-cycles (R51). -/
theorem timaPeriod_range (tac : BitVec 3) : 0 < timaPeriod tac ∧ timaPeriod tac ≤ 1024 := by
  unfold timaPeriod
  split <;> decide

theorem timerStep_timaAcc (c : Nat) {t : Timer} (h : t.timaAcc < 1024) : (timerStep c t).1.timaAcc < 1024 := by
  obtain ⟨pos, le⟩ := timaPeriod_range t.tac
  unfold timerStep
  simp only
  split
  · rw [timaIncrements_timaAcc]
    exact Nat.lt_of_lt_of_le (Nat.mod_lt _ pos) le
  · exact h

theorem serialStep_acc (c : Nat) {u : Serial} (h : u.serialAcc < 4096) : (serialStep c u).1.serialAcc < 4096 := by
  unfold serialStep
  split
  · split <;> simp only <;> omega
  · exact h

/-- A byte copied by the DMA engine lands inside OAM while the engine's index is below 160. -/
theorem stepDma_oam_within (c : Nat) {s : State} (oam : Memory.within 0xA0 s.ppu.oam = true)
    (index : s.dma.active = true → s.dma.index < 160) : Memory.within 0xA0 (stepDma c s).ppu.oam = true := by
  refine (stepDma_keeps (P := fun u => Memory.within 0xA0 u.ppu.oam = true ∧ (u.dma.active = true → u.dma.index < 160))
    c (fun u active h => ?_) (fun _ _ h => h) ⟨oam, index⟩).1
  have below := h.2 active
  rw [dmaCopy_eq]
  refine ⟨Memory.within_memWrite _ (by rw [dmaIndex_mod _ below]; exact below) h.1, ?_⟩
  split
  · exact nofun
  · exact fun _ => by simp only; omega

/-- Outside OAM and its own counters the DMA engine changes nothing. -/
theorem stepDma_frame (c : Nat) (s : State) :
    stepDma c s = { s with ppu := { s.ppu with oam := (stepDma c s).ppu.oam }, dma := (stepDma c s).dma } := by
  obtain ⟨oam, dma, e⟩ := stepDma_keeps
    (P := fun u => ∃ oam dma, u = { s with ppu := { s.ppu with oam := oam }, dma := dma }) c
    (fun u _ ⟨oam, dma, e⟩ => by subst e; exact ⟨_, _, dmaCopy_eq _⟩)
    (fun u n ⟨oam, dma, e⟩ => by subst e; exact ⟨_, _, rfl⟩) ⟨s.ppu.oam, s.dma, rfl⟩
  rw [e]

theorem stepDma_storageInRange (c : Nat) {s : State} (h : StorageInRange s) : StorageInRange (stepDma c s) := by
  obtain ⟨⟨hw, hh, ha, hv, ho, rest⟩, ⟨ht, hs, acc, index, active⟩, hb⟩ := h
  have oam := stepDma_oam_within c ho active
  have counters := stepDma_counters c acc index active
  rw [stepDma_frame]
  exact ⟨⟨hw, hh, ha, hv, oam, rest⟩, ⟨ht, hs, counters⟩, hb⟩

/-- Settles O58: a bus write stays inside the array the decoder gave it, the timer and the serial unit leave less than
one period, and the DMA engine's index is below 160 while it copies. -/
theorem storageInRangeKept : Obligations.StorageInRangeKept := by
  unfold Obligations.StorageInRangeKept
  intro s t mem dev rom hs
  refine step_keeps (P := StorageInRange) ?cpu ?irq ?bus ?timer ?dma ?serial ?ppu ?frame ⟨mem, dev, rom⟩ hs
  case bus => exact fun a v s => busWrite_storageInRange a v
  case dma => exact fun c s => stepDma_storageInRange c
  case timer => exact fun c s ⟨mem, ⟨acc, dev⟩, rom⟩ => ⟨mem, ⟨timerStep_timaAcc c acc, dev⟩, rom⟩
  case serial => exact fun c s _ ⟨mem, ⟨tima, acc, dev⟩, rom⟩ => ⟨mem, ⟨tima, serialStep_acc c acc, dev⟩, rom⟩
  case ppu =>
    intro c s ⟨⟨hw, hh, ha, hv, ho, mem⟩, dev, rom⟩
    have keeps := ppuStep_keeps s.params.spriteFetchDots c s.ppu
    exact ⟨⟨hw, hh, ha, keeps.vram ▸ hv, keeps.oam ▸ ho, mem⟩, dev, rom⟩
  case cpu => exact fun _ _ h => h
  case irq => exact fun _ _ h => h
  case frame => exact fun _ _ _ _ h => h

/-! ### The PPU -/

/-- The PPU in range, in HBLANK while off, its coincidence bit exact. -/
abbrev PpuConsistent (p : Ppu) : Prop := PpuInRange p ∧ LcdOffInHblank p ∧ CoincidenceExact p

/-- A write to LCDC: the transitions leave the modes and the line they name (R510). -/
theorem writeLcdc_consistent (v : Byte) {p : Ppu} (h : PpuConsistent p) : PpuConsistent (p.writeLcdc v) := by
  obtain ⟨range, off, exact'⟩ := h
  obtain ⟨h1, h2, h3, h4, h5, h6, h7, h8, h9, h10, h11⟩ := range
  unfold Ppu.writeLcdc
  simp only
  split_ifs with toOff toOn
  · exact ⟨⟨h1, h2, h3, h4, h5, h6, nofun, h8, h9, rfl, h11⟩, fun _ => rfl, rfl⟩
  · refine ⟨⟨h1, h2, h3, h4, h5, h6, nofun, h8, h9, h10, h11⟩, fun isOff => ?_, rfl⟩
    exact absurd (isOff.symm.trans toOn.2) (by decide)
  · refine ⟨⟨h1, h2, h3, h4, h5, h6, h7, h8, h9, h10, h11⟩, fun isOff => off ?_, exact'⟩
    cases was : p.lcdOn
    · rfl
    · exact absurd ⟨was, isOff⟩ toOff

theorem busWrite_ppuConsistent (addr : Word) (v : Byte) {s : State} (h : PpuConsistent s.ppu) :
    PpuConsistent (busWrite addr v s).ppu := by
  have e := busWrite_effect addr v s
  generalize busWrite addr v s = t at e ⊢
  cases e with
  | io r _ =>
    cases r with
    | lcdc => exact writeLcdc_consistent v h
    | ly => exact ⟨h.1, h.2.1, rfl⟩
    | lyc => exact ⟨h.1, h.2.1, rfl⟩
    | _ => exact h
  | _ => exact h

/-- A dot keeps it; a step while the LCD is off does nothing, and no dot switches the LCD. -/
theorem ppuStep_consistent (d c : Nat) {p : Ppu} (h : PpuConsistent p) : PpuConsistent (ppuStep d c p).1 := by
  obtain ⟨range, off, exact'⟩ := h
  cases on : p.lcdOn with
  | false => rw [ppuStep_off on]; exact ⟨range, off, exact'⟩
  | true =>
    have stillOn : (ppuStep d c p).1.lcdOn = true := by
      unfold Ppu.lcdOn at on ⊢
      rwa [(ppuStep_keeps d c p).lcdc]
    exact ⟨ppuStep_induct d c (fun _ => dot_inRange d) range, fun isOff => absurd (isOff.symm.trans stillOn) (by decide),
      ppuStep_induct d c (fun _ => dot_coincidence d) exact'⟩

/-- Settles O59: only the bus, the dots and the frame boundary write the PPU. -/
theorem ppuConsistentKept : Obligations.PpuConsistentKept := by
  unfold Obligations.PpuConsistentKept
  intro s t range off exact' hs
  refine step_keeps (P := fun u => PpuConsistent u.ppu) ?cpu ?irq ?bus ?timer ?dma ?serial ?ppu ?frame
    ⟨range, off, exact'⟩ hs
  case bus => exact fun a v s => busWrite_ppuConsistent a v
  case ppu => exact fun c s => ppuStep_consistent s.params.spriteFetchDots c
  case dma => exact fun c s h => by rw [stepDma_frame]; exact h
  case cpu => exact fun _ _ h => h
  case irq => exact fun _ _ h => h
  case timer => exact fun _ _ h => h
  case serial => exact fun _ _ _ h => h
  case frame => exact fun _ _ _ _ h => h

/-! ### What no step changes -/

/-- From `s` to `t` the launch parameters, the boot ROM and the cartridge's ROM, kind and sizes are the same, and the
boot overlay does not come back. -/
structure SameSession (s t : State) : Prop where
  params : t.params = s.params
  bootRom : t.bootRom = s.bootRom
  rom : t.cart.rom = s.cart.rom
  nrom : t.cart.nrom = s.cart.nrom
  nram : t.cart.nram = s.cart.nram
  family : t.cart.family = s.cart.family
  battery : t.cart.battery = s.cart.battery
  overlay : s.bootVisible = false → t.bootVisible = false

theorem SameSession.refl (s : State) : SameSession s s := ⟨rfl, rfl, rfl, rfl, rfl, rfl, rfl, id⟩

theorem SameSession.trans {s t u : State} (h : SameSession s t) (k : SameSession t u) : SameSession s u :=
  ⟨k.params.trans h.params, k.bootRom.trans h.bootRom, k.rom.trans h.rom, k.nrom.trans h.nrom, k.nram.trans h.nram,
    k.family.trans h.family, k.battery.trans h.battery, k.overlay ∘ h.overlay⟩

theorem busWrite_sameSession (addr : Word) (v : Byte) (s : State) : SameSession s (busWrite addr v s) := by
  have e := busWrite_effect addr v s
  generalize busWrite addr v s = t at e ⊢
  cases e with
  | control a _ =>
    obtain ⟨rom, -, -, -, nrom, nram, family, battery⟩ := controlWrite_memories s.cart a v
    exact ⟨rfl, rfl, rom, nrom, nram, family, battery, id⟩
  | extRam a _ _ =>
    rcases ramWrite_cases s.cart a v with e | e | ⟨r, e⟩ | ⟨-, e⟩ <;> rw [e] <;>
      exact ⟨rfl, rfl, rfl, rfl, rfl, rfl, rfl, id⟩
  | io r _ =>
    cases r with
    | bootOff => exact ⟨rfl, rfl, rfl, rfl, rfl, rfl, rfl, fun _ => rfl⟩
    | _ => exact ⟨rfl, rfl, rfl, rfl, rfl, rfl, rfl, id⟩
  | _ => exact ⟨rfl, rfl, rfl, rfl, rfl, rfl, rfl, id⟩

/-- Settles O60: of everything a step is made of, only a bus write reaches the cartridge or the overlay, and it changes
neither what is fixed nor the overlay back. -/
theorem fixedForTheSession : Obligations.FixedForTheSession := by
  unfold Obligations.FixedForTheSession
  intro s t hs
  have same : SameSession s t := by
    refine step_keeps (P := SameSession s) ?cpu ?irq ?bus ?timer ?dma ?serial ?ppu ?frame (.refl s) hs
    case bus => exact fun a v u h => h.trans (busWrite_sameSession a v u)
    case dma => exact fun c u h => by rw [stepDma_frame]; exact h.trans ⟨rfl, rfl, rfl, rfl, rfl, rfl, rfl, id⟩
    case cpu => exact fun _ _ h => h.trans ⟨rfl, rfl, rfl, rfl, rfl, rfl, rfl, id⟩
    case irq => exact fun _ _ h => h.trans ⟨rfl, rfl, rfl, rfl, rfl, rfl, rfl, id⟩
    case timer => exact fun _ _ h => h.trans ⟨rfl, rfl, rfl, rfl, rfl, rfl, rfl, id⟩
    case serial => exact fun _ _ _ h => h.trans ⟨rfl, rfl, rfl, rfl, rfl, rfl, rfl, id⟩
    case ppu => exact fun _ _ h => h.trans ⟨rfl, rfl, rfl, rfl, rfl, rfl, rfl, id⟩
    case frame => exact fun _ _ _ _ h => h.trans ⟨rfl, rfl, rfl, rfl, rfl, rfl, rfl, id⟩
  obtain ⟨params, bootRom, rom, nrom, nram, family, battery, overlay⟩ := same
  exact ⟨params, bootRom, rom, nrom, nram, family, battery, overlay⟩

end Sys2Proof.Machine

/-! PROOFS. The step (R36, R40, R401, R402, R421, R470, R472): the interrupt check in its three cases, the fetch with and
without the halt bug, and the step put together from them. The obligations O5 to O10 and O4. -/

namespace Sys2Proof

/-- Three bytes are enough for every instruction, so the decoder answers what they say. -/
theorem decode_threeBytes {b0 b1 b2 : Byte} {i : Instr} {rest : List Byte} (h : decode [b0, b1, b2] = .ok (i, rest)) :
    i = decodeBytes b0 b1 b2 := by
  rcases decode_cases h with ⟨e, -, -⟩ | ⟨c0, tail, e, -, rfl, -⟩
  · cases e
  · cases e; rfl

/-- An instruction's length is the length of its encoding. -/
theorem length_encode_decodeBytes (b0 b1 b2 : Byte) : (encode (decodeBytes b0 b1 b2)).length = opLength b0 := by
  rw [encode_decodeBytes]
  rcases opLength_cases b0 with h | h | h <;> rw [h] <;> rfl

/-! ### The illegal opcodes -/

/-- No CB row is illegal (R172). -/
theorem illegalOpcode_decodeCb (b1 : Byte) : (decodeCb b1).illegalOpcode = none := by
  unfold decodeCb
  split
  · generalize rotOf (fieldY b1) = k, r8Of (fieldZ b1) = r
    cases k <;> cases r <;> rfl
  all_goals
    generalize fieldOf (fieldY b1) = n, r8Of (fieldZ b1) = r
    fin_cases n <;> cases r <;> rfl

/-- The eleven opcodes of R172. -/
theorem illegalOpcode_decodeBytes (b0 b1 b2 : Byte) : (decodeBytes b0 b1 b2).illegalOpcode =
    if b0.toNat ∈ [0xD3, 0xDB, 0xDD, 0xE3, 0xE4, 0xEB, 0xEC, 0xED, 0xF4, 0xFC, 0xFD] then some b0 else none := by
  refine byte_cases (P := fun b0 => (decodeBytes b0 b1 b2).illegalOpcode =
    if b0.toNat ∈ [0xD3, 0xDB, 0xDD, 0xE3, 0xE4, 0xEB, 0xEC, 0xED, 0xF4, 0xFC, 0xFD] then some b0 else none) ?_ b0
  intro n hn
  rcases Nat.lt_trichotomy n 0xCB with below | rfl | above
  · interval_cases n <;> rfl
  · exact illegalOpcode_decodeCb b1
  · interval_cases n <;> rfl

/-- An illegal instruction is its opcode byte alone. -/
theorem encode_illegal {i : Instr} {op : Byte} (h : i.illegalOpcode = some op) : encode i = [op] := by
  cases i <;> cases h <;> rfl

end Sys2Proof

namespace Sys2Proof.Machine

/-! ### The interrupt check -/

section
variable {s : State}

theorem interruptCheck_of_none (h : pending s = 0) : interruptCheck s = { s with cycles := 0 } := by
  have none' : pending { s with cycles := 0 } = 0 := h
  unfold interruptCheck dispatchPending
  rw [releaseHalt_eq, none']
  exact (if_neg fun c => c.2 h).trans (by simp)

/-- HALT is released whether or not the interrupt is dispatched. -/
theorem releaseHalt_of_pending (h : pending s ≠ 0) :
    releaseHalt { s with cycles := 0 } = { s with halted := false, cycles := 0 } := by
  rw [releaseHalt_eq]
  have some' : decide (pending { s with cycles := 0 } = 0) = false := decide_eq_false h
  rw [some', Bool.and_false]

theorem interruptCheck_of_masked (h : pending s ≠ 0) (ime : s.ime = false) :
    interruptCheck s = { s with halted := false, cycles := 0 } := by
  unfold interruptCheck dispatchPending
  rw [releaseHalt_of_pending h]
  exact if_neg fun c => absurd (ime.symm.trans c.1) (by decide)

theorem interruptCheck_of_dispatch (h : pending s ≠ 0) (ime : s.ime = true) :
    interruptCheck s = takeInterrupt (pending s) { s with halted := false, cycles := 0 } := by
  unfold interruptCheck dispatchPending
  rw [releaseHalt_of_pending h]
  exact if_pos ⟨ime, h⟩

end

/-- Settles O7: the release, then the dispatch, in the three cases of `pending` and IME. -/
theorem interruptCheckOpensStep : Obligations.InterruptCheckOpensStep := by
  unfold Obligations.InterruptCheckOpensStep
  exact fun s => ⟨interruptCheck_of_none, interruptCheck_of_masked, interruptCheck_of_dispatch⟩

/-! ### The dispatch -/

/-- The lowest set bit is the one with none set below it. -/
theorem lowestBit_of_firstPending {i : Nat} {s : State} (h : FirstPending i s) : lowestBit (pending s) = i := by
  obtain ⟨lt, set, below⟩ := h
  unfold lowestBit
  interval_cases i
  · simp only [set, if_true]
  · simp only [set, below 0 (by decide), if_true, Bool.false_eq_true, if_false]
  · simp only [set, below 0 (by decide), below 1 (by decide), if_true, Bool.false_eq_true, if_false]
  · simp only [set, below 0 (by decide), below 1 (by decide), below 2 (by decide), if_true, Bool.false_eq_true, if_false]
  · simp only [below 0 (by decide), below 1 (by decide), below 2 (by decide), below 3 (by decide), Bool.false_eq_true,
      if_false]

/-- A push does not see IME and its schedule. -/
theorem afterPush_clearIme (v : Word) (s : State) :
    afterPush v { s with ime := false, imeScheduled := false } =
      { afterPush v s with ime := false, imeScheduled := false } := by
  unfold afterPush
  rw [busWrite_of_withCpu (c := s) _ _ { s with ime := false, imeScheduled := false } rfl, busWrite_withCpu,
    busWrite_cpu _ _ (busWrite _ _ s), busWrite_cpu _ _ s]
  rfl

theorem afterPush_cycles (v : Word) (s : State) : (afterPush v s).cycles = s.cycles := by
  unfold afterPush
  simp only [busWrite_cycles]

/-- What an operation that counts no cycles itself leaves once its cycles are counted. -/
theorem tick_of_cycles {s t : State} (n : Nat) (h : t.cycles = s.cycles) :
    tick n t = { t with cycles := s.cycles + n } := by
  unfold tick
  rw [h]

/-- Settles O8: the lowest pending bit is `i`, and the push sees neither IME nor its schedule. -/
theorem interruptDispatch : Obligations.InterruptDispatch := by
  unfold Obligations.InterruptDispatch
  intro s i first
  rw [takeInterrupt_eq, lowestBit_of_firstPending first, push16_eq_afterPush]
  have vector' : vector i = BitVec.ofNat 16 (0x0040 + 8 * i) := (BitVec.ofNat_add ..).symm
  rw [vector']
  refine (congrArg (fun t => tick 20 (jumpTo (BitVec.ofNat 16 (0x0040 + 8 * i)) t))
    (afterPush_clearIme s.pc { s with ifReg := s.ifReg &&& ~~~(1#5 <<< i) })).trans ?_
  exact tick_of_cycles 20 (afterPush_cycles s.pc { s with ifReg := s.ifReg &&& ~~~(1#5 <<< i) })

/-! ### The fetch -/

/-- The fetch reads up to three bytes from PC on and moves PC past those the opcode announces (R36). -/
theorem fetchInstr_normal {s : State} (h : s.haltBug = false) :
    fetchInstr s = (decodeBytes (busRead s.pc s) (busRead (s.pc + 1) s) (busRead (s.pc + 2) s),
      { s with instrAddr := s.pc, pc := s.pc + BitVec.ofNat 16 (opLength (busRead s.pc s)) }) := by
  have at2 : s.pc + 1 + 1 = s.pc + 2 := by bv_omega
  have at3 : s.pc + 2 + 1 = s.pc + 3 := by bv_omega
  unfold fetchInstr
  rw [fetch8_normal (s := { s with instrAddr := s.pc }) h]
  simp only
  have read : busRead s.pc { s with instrAddr := s.pc } = busRead s.pc s := rfl
  rw [read]
  rcases opLength_cases (busRead s.pc s) with len | len | len
  · rw [if_pos len, decodeBytes_one len, len]
    rfl
  · rw [if_neg (by rw [len]; decide), fetch8_normal (s := { s with instrAddr := s.pc, pc := s.pc + 1 }) h]
    simp only
    rw [if_pos len, decodeBytes_two len, len, at2]
    rfl
  · rw [if_neg (by rw [len]; decide), fetch8_normal (s := { s with instrAddr := s.pc, pc := s.pc + 1 }) h]
    simp only
    rw [if_neg (by rw [len]; decide), at2, fetch8_normal (s := { s with instrAddr := s.pc, pc := s.pc + 2 }) h]
    simp only
    rw [len, at3]
    rfl

/-- Under the halt bug the byte at PC is read twice, and PC moves one byte less (R36). -/
theorem fetchInstr_withBug {s : State} (h : s.haltBug = true) :
    fetchInstr s = (decodeBytes (busRead s.pc s) (busRead s.pc s) (busRead (s.pc + 1) s),
      { s with instrAddr := s.pc, haltBug := false,
               pc := s.pc + BitVec.ofNat 16 (opLength (busRead s.pc s) - 1) }) := by
  have at0 : s.pc + 0 = s.pc := BitVec.add_zero _
  have at2 : s.pc + 1 + 1 = s.pc + 2 := by bv_omega
  unfold fetchInstr
  rw [fetch8_withBug (s := { s with instrAddr := s.pc }) h]
  simp only
  have read : busRead s.pc { s with instrAddr := s.pc } = busRead s.pc s := rfl
  rw [read]
  rcases opLength_cases (busRead s.pc s) with len | len | len
  · rw [if_pos len, decodeBytes_one len, len]
    exact congrArg (fun x => (_, { s with instrAddr := s.pc, haltBug := false, pc := x })) at0.symm
  · rw [if_neg (by rw [len]; decide), fetch8_normal (s := { s with instrAddr := s.pc, haltBug := false }) rfl]
    simp only
    rw [if_pos len, decodeBytes_two len, len]
    rfl
  · rw [if_neg (by rw [len]; decide), fetch8_normal (s := { s with instrAddr := s.pc, haltBug := false }) rfl]
    simp only
    rw [if_neg (by rw [len]; decide),
      fetch8_normal (s := { s with instrAddr := s.pc, haltBug := false, pc := s.pc + 1 }) rfl]
    simp only
    rw [len, at2]
    rfl

/-! ### The step -/

/-- A free state has no fault and is not stopped. -/
theorem blocked_none {s : State} (h : blocked s = none) : s.fault = none ∧ s.stopped = false ∧ s.shutdown = false := by
  unfold blocked at h
  cases hf : s.fault <;> cases hs : s.stopped <;> cases hd : s.shutdown <;> simp_all

theorem step_eq {s : State} (h : blocked s = none) : step s = afterCpu (cpuStep s) := by
  unfold step engineStep
  rw [h]

/-- A step that is neither blocked nor halted runs what it fetches. -/
theorem step_of_fetch {s u : State} (free : blocked s = none) (opened : interruptCheck s = u) (runs : u.halted = false) :
    step s = afterCpu (finishInstr u.imeScheduled (exec (fetchInstr u).1 (fetchInstr u).2)) := by
  rw [step_eq free]
  unfold cpuStep
  simp only [opened, runs, Bool.false_eq_true, if_false]

/-- Settles O5: without the halt bug the fetch gives the instruction the bytes at PC decode to, and moves PC past it. -/
theorem stepRunsDecodedInstruction : Obligations.StepRunsDecodedInstruction := by
  unfold Obligations.StepRunsDecodedInstruction
  rintro s u i free opened runs noBug ⟨rest, bytes⟩
  rw [step_of_fetch free opened runs, fetchInstr_normal noBug, decode_threeBytes bytes, length_encode_decodeBytes]

/-- Settles O6: the fetch under the halt bug. -/
theorem haltBugRereadsOpcode : Obligations.HaltBugRereadsOpcode := by
  unfold Obligations.HaltBugRereadsOpcode
  intro s u i rest free opened runs bug bytes
  rw [step_of_fetch free opened runs, fetchInstr_withBug bug, decode_threeBytes bytes, length_encode_decodeBytes]

/-- A state that runs its next instruction opens its step with nothing but the cycle count cleared. -/
theorem interruptCheck_of_runsNext {s : State} (h : RunsNext s) : interruptCheck s = { s with cycles := 0 } := by
  obtain ⟨-, runs, quiet, -⟩ := h
  by_cases p : pending s = 0
  · exact interruptCheck_of_none p
  · rw [interruptCheck_of_masked p (quiet.resolve_right p), ← runs]

/-- The step of a state that runs its next instruction. -/
theorem step_of_runsNext {s : State} {i : Instr} (h : RunsNext s) (code : Fetches s i) :
    step s = afterCpu (finishInstr s.imeScheduled
      (exec i { s with instrAddr := s.pc, pc := s.pc + BitVec.ofNat 16 (encode i).length, cycles := 0 })) :=
  stepRunsDecodedInstruction s { s with cycles := 0 } i h.1 (interruptCheck_of_runsNext h) h.2.1 h.2.2.2 code

/-- Settles O4: the eleven opcodes are read off the decoder, and each takes the decode error, after which neither the
EI commit nor the devices follow. -/
theorem decodeErrorEndsRun : Obligations.DecodeErrorEndsRun := by
  unfold Obligations.DecodeErrorEndsRun
  refine ⟨illegalOpcode_decodeBytes, fun s i op illegal => ⟨exec_illegal s illegal, fun runs code => ?_⟩⟩
  rw [step_of_runsNext runs code, encode_illegal illegal, exec_illegal _ illegal]
  rfl

/-- Settles O10: a blocked state answers a fault, any other a next state. -/
theorem blockedStatesTakeNoStep : Obligations.BlockedStatesTakeNoStep := by
  unfold Obligations.BlockedStatesTakeNoStep
  refine fun s => ⟨fun stuck t hs => ?_, fun fault stopped shutdown => step_answers ?_⟩
  · obtain ⟨free, -⟩ := step_cases hs
    obtain ⟨fault, stopped, shutdown⟩ := blocked_none free
    simp [fault, stopped, shutdown] at stuck
  · unfold blocked
    simp only [fault, stopped, shutdown, Bool.false_eq_true, if_false]

/-! ### The halted step -/

theorem stepDma_timer (c : Nat) (s : State) : (stepDma c s).timer = s.timer := by
  rw [stepDma_frame]

/-- Of the devices only the timer moves the divider. -/
theorem deviceSteps_divCounter (c : Nat) (s : State) :
    (deviceSteps c s).timer.divCounter = s.timer.divCounter + BitVec.ofNat 16 c := by
  have timer : (deviceSteps c s).timer = (stepDma c (stepTimer c s)).timer := rfl
  rw [timer, stepDma_timer, stepTimer_eq, timerStep_divCounter]

theorem frameBoundary_timer (s : State) : (frameBoundary s).timer = s.timer := by
  rcases frameBoundary_cases s with e | ⟨j, x, b, w, e⟩ <;> rw [e]

/-- The devices and the frame boundary leave the CPU's registers and IE. -/
theorem afterDevices_cpu (c : Nat) (s : State) :
    frameBoundary (deviceSteps c s) = withCpu s (frameBoundary (deviceSteps c s)) ∧
      (frameBoundary (deviceSteps c s)).ieReg = s.ieReg := by
  obtain ⟨frame, ie⟩ := frameBoundary_cpu (deviceSteps c s)
  obtain ⟨device, ie'⟩ := deviceSteps_cpu c s
  refine ⟨?_, ie.trans ie'⟩
  rw [device] at frame
  rw [device]
  exact frame

/-- Settles O9: with nothing pending HALT goes on, so the step is 4 T-cycles of the devices. -/
theorem haltedStepAdvancesDevices : Obligations.HaltedStepAdvancesDevices := by
  unfold Obligations.HaltedStepAdvancesDevices
  intro s free halted none'
  obtain ⟨fault, stopped, -⟩ := blocked_none free
  have cpu : cpuStep s = .next { s with cycles := 4 } := by
    unfold cpuStep
    simp only [interruptCheck_of_none none', halted, if_true]
    rfl
  refine ⟨frameBoundary (deviceSteps 4 { s with cycles := 4 }), ?_, rfl, ?_, ?_⟩
  · rw [step_eq free, cpu]
    simp only [afterCpu, fault, Option.isSome_none, Bool.false_eq_true, if_false]
  · obtain ⟨frame, ie⟩ := afterDevices_cpu 4 { s with cycles := 4 }
    generalize frameBoundary (deviceSteps 4 { s with cycles := 4 }) = t at frame ie
    have cycles : t.cycles = 4 := by rw [frame]; rfl
    have addr : t.instrAddr = s.instrAddr := by rw [frame]; rfl
    refine frame.trans ?_
    simp only [withCpu, cycles, addr, halted, stopped, fault, ie]
  · rw [frameBoundary_timer, deviceSteps_divCounter]
    rfl

end Sys2Proof.Machine

/-! PROOFS. The system instructions and what holds of every instruction: which latches it writes (R381, R382, R405), the
T-cycles of its row (R175, R645) and the EI commit after it (R404). The obligations O34 to O37, O11 and O12. -/

namespace Sys2Proof

/-- Every instruction but the ones that write a latch (DI, EI, RETI, HALT, STOP), the lone byte 0xCB and the illegal
opcodes. -/
def Instr.ordinary (i : Instr) : Bool :=
  match i with
  | .di | .ei | .reti | .halt | .stopN8 _ | .prefixCb => false
  | i => i.illegalOpcode.isNone

/-- A whole, legal instruction is ordinary or one of the five that write a latch. -/
theorem Instr.ordinary_or {i : Instr} (whole : i.wellFormed = true) (legal : i.illegalOpcode = none) :
    i.ordinary = true ∨ i = .di ∨ i = .ei ∨ i = .reti ∨ i = .halt ∨ ∃ n, i = .stopN8 n := by
  unfold Instr.ordinary
  split
  · exact .inr (.inl rfl)
  · exact .inr (.inr (.inl rfl))
  · exact .inr (.inr (.inr (.inl rfl)))
  · exact .inr (.inr (.inr (.inr (.inl rfl))))
  · exact .inr (.inr (.inr (.inr (.inr ⟨_, rfl⟩))))
  · cases whole
  · exact .inl (by rw [legal]; rfl)

end Sys2Proof

namespace Sys2Proof.Machine

/-! ### The system instructions -/

/-- Settles O34: each is one update of the latches and 4 T-cycles. -/
theorem nopStopDiEi : Obligations.NopStopDiEi := by
  unfold Obligations.NopStopDiEi
  exact fun n s => ⟨rfl, rfl, rfl, rfl⟩

/-- No enabled interrupt is requested exactly when no bit is set in both IE and IF. -/
theorem pending_eq_zero_iff (s : State) :
    pending s = 0 ↔ ∀ i, i < 5 → ¬(s.ieReg.getLsbD i = true ∧ s.ifReg.getLsbD i = true) := by
  have bits : ∀ i, (pending s).getLsbD i = (s.ieReg.getLsbD i && s.ifReg.getLsbD i) := fun i => BitVec.getLsbD_and
  have zero : ∀ i, (0 : BitVec 5).getLsbD i = false := fun i => BitVec.getLsbD_zero
  constructor
  · intro none' i _ ⟨ie, if'⟩
    have set := bits i
    rw [none', ie, if', zero] at set
    cases set
  · intro clear
    refine BitVec.eq_of_getLsbD_eq fun i lt => ?_
    rw [bits, zero, Bool.and_eq_false_iff]
    by_contra both
    simp only [not_or, Bool.not_eq_false] at both
    exact clear i lt both

/-- Settles O35: HALT's condition, bit by bit. -/
theorem haltOrHaltBug : Obligations.HaltOrHaltBug := by
  unfold Obligations.HaltOrHaltBug
  intro s
  have run : exec .halt s = .next (tick 4 (enterHalt s)) := rfl
  rw [run, ← pending_eq_zero_iff]
  unfold enterHalt
  refine ⟨fun halts => ?_, fun masked ⟨i, lt, both⟩ => ?_⟩
  · rw [if_pos halts]
    rfl
  · have arms : ¬(s.ime = true ∨ pending s = 0) := by
      rw [pending_eq_zero_iff, masked]
      exact fun c => c.elim nofun fun clear => clear i lt both
    rw [if_neg arms]
    rfl

theorem fieldOf_fieldY (op : Byte) : (fieldOf (fieldY op)).val = fieldY op := Nat.mod_mod_of_dvd _ (dvd_refl 8)

/-- The decoded CB instruction runs as the byte 0xCB runs it (R169, R385). -/
theorem exec_decodeCb (op : Byte) (s : State) : exec (decodeCb op) s = .next (executeCb op s) := by
  have field := fieldOf_fieldY op
  unfold decodeCb executeCb
  match fieldX op with
  | 0 => exact exec_mkRot s _ _
  | 1 => exact (exec_mkBit s _ _).trans (by rw [field]; rfl)
  | 2 => exact (exec_mkRes s _ _).trans (by rw [field]; rfl)
  | _ + 3 => exact (exec_mkSet s _ _).trans (by rw [field]; rfl)

/-- Settles O36: the byte 0xCB fetches its opcode, and the decoded instruction does the same to the state after. -/
theorem prefixRunsCbInstruction : Obligations.PrefixRunsCbInstruction := by
  unfold Obligations.PrefixRunsCbInstruction
  intro s
  have run : exec .prefixCb s = .next (executeCb (fetch8 s).1 (fetch8 s).2) := rfl
  refine ⟨fun noBug => ⟨_, run, ?_⟩, fun bug => ⟨_, run, ?_⟩⟩
  · rw [fetch8_normal noBug]
    exact exec_decodeCb _ _
  · rw [fetch8_withBug bug]
    exact exec_decodeCb _ _

/-! ### What the ordinary operations leave alone -/

/-- From `s` to `t` no latch changes, no fault is raised and no cycle is counted. -/
structure KeepsLatches (s t : State) : Prop where
  ime : t.ime = s.ime
  imeScheduled : t.imeScheduled = s.imeScheduled
  halted : t.halted = s.halted
  haltBug : t.haltBug = s.haltBug
  stopped : t.stopped = s.stopped
  fault : t.fault = s.fault
  cycles : t.cycles = s.cycles

theorem KeepsLatches.trans {s t u : State} (h : KeepsLatches s t) (k : KeepsLatches t u) : KeepsLatches s u :=
  ⟨k.ime.trans h.ime, k.imeScheduled.trans h.imeScheduled, k.halted.trans h.halted, k.haltBug.trans h.haltBug,
    k.stopped.trans h.stopped, k.fault.trans h.fault, k.cycles.trans h.cycles⟩

theorem KeepsLatches.refl (s : State) : KeepsLatches s s := ⟨rfl, rfl, rfl, rfl, rfl, rfl, rfl⟩

/-- The eight registers, SP and PC are no latches. -/
theorem KeepsLatches.of_registers {s t : State} (a f b c d e h l : Byte) (sp pc : Word)
    (e' : t = { s with a := a, f := f, b := b, c := c, d := d, e := e, h := h, l := l, sp := sp, pc := pc }) :
    KeepsLatches s t := by
  subst e'
  exact ⟨rfl, rfl, rfl, rfl, rfl, rfl, rfl⟩

theorem KeepsLatches.busWrite (addr : Word) (v : Byte) (s : State) : KeepsLatches s (busWrite addr v s) :=
  ⟨busWrite_ime _ _ _, busWrite_imeScheduled _ _ _, busWrite_halted _ _ _, busWrite_haltBug _ _ _,
    busWrite_stopped _ _ _, busWrite_fault _ _ _, busWrite_cycles _ _ _⟩

theorem keepsLatches_writeR8 (r : R8) (v : Byte) (s : State) : KeepsLatches s (writeR8 r v s) := by
  cases r with
  | atHl => exact .busWrite _ _ _
  | _ => exact ⟨rfl, rfl, rfl, rfl, rfl, rfl, rfl⟩

theorem keepsLatches_setFlags (z n h c : Bool) (s : State) : KeepsLatches s (setFlags z n h c s) :=
  ⟨rfl, rfl, rfl, rfl, rfl, rfl, rfl⟩

theorem keepsLatches_alu (op : AluOp) (v : Byte) (s : State) : KeepsLatches s (alu op v s) := by
  cases op <;> exact ⟨rfl, rfl, rfl, rfl, rfl, rfl, rfl⟩

theorem keepsLatches_accOp (y : Fin 8) (s : State) : KeepsLatches s (accOp y s) := by
  match y with
  | 0 | 1 | 2 | 3 | 4 | 5 | 6 | 7 => exact ⟨rfl, rfl, rfl, rfl, rfl, rfl, rfl⟩

theorem keepsLatches_writeRr (rr : RR) (v : Word) (s : State) : KeepsLatches s (writeRr rr v s) := by
  cases rr <;> exact ⟨rfl, rfl, rfl, rfl, rfl, rfl, rfl⟩

theorem keepsLatches_popQq (q : QQ) (s : State) : KeepsLatches s (popQq q s) := by
  cases q <;> exact ⟨rfl, rfl, rfl, rfl, rfl, rfl, rfl⟩

theorem keepsLatches_push16 (v : Word) (s : State) : KeepsLatches s (push16 v s) := by
  rw [push16_eq]
  exact ((KeepsLatches.busWrite _ _ s).trans (.busWrite _ _ _)).trans ⟨rfl, rfl, rfl, rfl, rfl, rfl, rfl⟩

theorem keepsLatches_callTo (a : Word) (s : State) : KeepsLatches s (callTo a s) :=
  (keepsLatches_push16 s.pc s).trans ⟨rfl, rfl, rfl, rfl, rfl, rfl, rfl⟩

/-! ### The T-cycles of every instruction -/

/-- The instruction runs an operation that keeps the latches, and counts the T-cycles of its row, taken or not. -/
def RunsRow (i : Instr) (s : State) : Prop :=
  ∃ n t, exec i s = .next (tick n t) ∧ KeepsLatches s t ∧ (n = i.tableCycles.1 ∨ n = i.tableCycles.2)

/-- A conditional transfer counts the taken or the not-taken number (R350). -/
theorem runsRow_branch {i : Instr} {cc : Cond} {n m : Nat} {s t : State} (run : exec i s = .next (branch cc n m s t))
    (keeps : KeepsLatches s t) (row : i.tableCycles = (n, m)) : RunsRow i s := by
  rcases branch_cases cc n m s t with e | e <;> rw [e] at run
  · exact ⟨n, t, run, keeps, .inl (by rw [row])⟩
  · exact ⟨m, s, run, .refl s, .inr (by rw [row])⟩

/-- Every ordinary instruction, family by family. -/
theorem exec_runsRow (s : State) (i : Instr) : i.ordinary = true → RunsRow i s := by
  revert i
  apply Instr.byFamily
  case ld =>
    intro dst r ne _
    refine ⟨_, _, exec_mkLd s dst r ne, keepsLatches_writeR8 _ _ _, .inl ?_⟩
    cases dst with
    | atHl =>
      cases r with
      | atHl => exact absurd ⟨rfl, rfl⟩ ne
      | _ => rfl
    | _ => cases r <;> rfl
  case ldN => exact fun r n _ => ⟨_, _, exec_mkLdN s r n, keepsLatches_writeR8 _ _ _, .inl (by cases r <;> rfl)⟩
  case alu =>
    exact fun op r _ => ⟨_, _, exec_mkAlu s op r, keepsLatches_alu _ _ _, .inl (by cases op <;> cases r <;> rfl)⟩
  case aluN => exact fun op n _ => ⟨_, _, exec_mkAluN s op n, keepsLatches_alu _ _ _, .inl (by cases op <;> rfl)⟩
  case inc =>
    exact fun r _ => ⟨_, _, exec_mkInc s r, (keepsLatches_writeR8 _ _ _).trans (keepsLatches_setFlags _ _ _ _ _),
      .inl (by cases r <;> rfl)⟩
  case dec =>
    exact fun r _ => ⟨_, _, exec_mkDec s r, (keepsLatches_writeR8 _ _ _).trans (keepsLatches_setFlags _ _ _ _ _),
      .inl (by cases r <;> rfl)⟩
  case acc => exact fun y _ => ⟨_, _, exec_mkAccRot s y, keepsLatches_accOp _ _, .inl (by fin_cases y <;> rfl)⟩
  case ldRr => exact fun rr n _ => ⟨_, _, exec_mkLdRr s rr n, keepsLatches_writeRr _ _ _, .inl (by cases rr <;> rfl)⟩
  case addHl =>
    exact fun rr _ => ⟨_, _, exec_mkAddHl s rr, ⟨rfl, rfl, rfl, rfl, rfl, rfl, rfl⟩, .inl (by cases rr <;> rfl)⟩
  case incRr => exact fun rr _ => ⟨_, _, exec_mkIncRr s rr, keepsLatches_writeRr _ _ _, .inl (by cases rr <;> rfl)⟩
  case decRr => exact fun rr _ => ⟨_, _, exec_mkDecRr s rr, keepsLatches_writeRr _ _ _, .inl (by cases rr <;> rfl)⟩
  case push => exact fun q _ => ⟨_, _, exec_mkPush s q, keepsLatches_push16 _ _, .inl (by cases q <;> rfl)⟩
  case pop => exact fun q _ => ⟨_, _, exec_mkPop s q, keepsLatches_popQq _ _, .inl (by cases q <;> rfl)⟩
  case jrCc =>
    exact fun cc e _ => runsRow_branch (exec_mkJr s cc e) ⟨rfl, rfl, rfl, rfl, rfl, rfl, rfl⟩ (by cases cc <;> rfl)
  case jpCc =>
    exact fun cc a _ => runsRow_branch (exec_mkJp s cc a) ⟨rfl, rfl, rfl, rfl, rfl, rfl, rfl⟩ (by cases cc <;> rfl)
  case callCc => exact fun cc a _ => runsRow_branch (exec_mkCall s cc a) (keepsLatches_callTo _ _) (by cases cc <;> rfl)
  case retCc =>
    exact fun cc _ => runsRow_branch (exec_mkRet s cc) ⟨rfl, rfl, rfl, rfl, rfl, rfl, rfl⟩ (by cases cc <;> rfl)
  case rst => exact fun y _ => ⟨_, _, exec_mkRst s y, keepsLatches_callTo _ _, .inl (by fin_cases y <;> rfl)⟩
  case rot =>
    exact fun k r _ => ⟨_, _, exec_mkRot s k r, (keepsLatches_writeR8 _ _ _).trans (keepsLatches_setFlags _ _ _ _ _),
      .inl (by cases k <;> cases r <;> rfl)⟩
  case bitTest =>
    exact fun n r _ => ⟨_, _, exec_mkBit s n r, keepsLatches_setFlags _ _ _ _ _, .inl (by fin_cases n <;> cases r <;> rfl)⟩
  case res =>
    exact fun n r _ => ⟨_, _, exec_mkRes s n r, keepsLatches_writeR8 _ _ _, .inl (by fin_cases n <;> cases r <;> rfl)⟩
  case set =>
    exact fun n r _ => ⟨_, _, exec_mkSet s n r, keepsLatches_writeR8 _ _ _, .inl (by fin_cases n <;> cases r <;> rfl)⟩
  case illegal =>
    intro i op ill ord
    cases i <;> cases ill <;> cases ord
  case halt | reti | di | ei | prefixCb => exact nofun
  case stopN8 => exact fun _ => nofun
  case callA16 => exact fun a _ => ⟨_, _, rfl, keepsLatches_callTo _ _, .inl rfl⟩
  case ldAtBcA | ldAtDeA | ldhAtCA => exact fun _ => ⟨_, _, rfl, .busWrite _ _ _, .inl rfl⟩
  case ldAtHliA | ldAtHldA =>
    exact fun _ => ⟨_, _, rfl, (KeepsLatches.busWrite _ _ s).trans ⟨rfl, rfl, rfl, rfl, rfl, rfl, rfl⟩, .inl rfl⟩
  case ldhAtA8A | ldAtA16A => exact fun a _ => ⟨_, _, rfl, .busWrite _ _ _, .inl rfl⟩
  case ldAtA16Sp => exact fun a _ => ⟨_, _, rfl, (KeepsLatches.busWrite _ _ s).trans (.busWrite _ _ _), .inl rfl⟩
  case jrE8 | jpA16 | ldhAAtA8 | ldAAtA16 | addSpE8 | ldHlSpE8 =>
    exact fun _ _ => ⟨_, _, rfl, ⟨rfl, rfl, rfl, rfl, rfl, rfl, rfl⟩, .inl rfl⟩
  all_goals exact fun _ => ⟨_, _, rfl, ⟨rfl, rfl, rfl, rfl, rfl, rfl, rfl⟩, .inl rfl⟩

theorem enterHalt_cycles (s : State) : (enterHalt s).cycles = s.cycles := by
  unfold enterHalt
  split <;> rfl

/-- Settles O37: the ordinary rows, and the five that write a latch. -/
theorem cyclesOfTable : Obligations.CyclesOfTable := by
  unfold Obligations.CyclesOfTable
  intro i s whole legal
  rcases Instr.ordinary_or whole legal with ord | rfl | rfl | rfl | rfl | ⟨n, rfl⟩
  · obtain ⟨n, t, run, keeps, row⟩ := exec_runsRow s i ord
    refine ⟨_, run, ?_⟩
    rw [tick_cycles, keeps.cycles]
    exact row.imp (congrArg _) (congrArg _)
  · exact ⟨_, rfl, .inl rfl⟩
  · exact ⟨_, rfl, .inl rfl⟩
  · exact ⟨_, rfl, .inl rfl⟩
  · exact ⟨_, rfl, .inl (congrArg (· + 4) (enterHalt_cycles s))⟩
  · exact ⟨_, rfl, .inl rfl⟩

/-! ### Who writes the latches -/

/-- What `exec` answers is one state. -/
theorem exec_unique {i : Instr} {s t u : State} (h : exec i s = .next t) (k : exec i s = .next u) : t = u :=
  Host.Outcome.next.inj (h.symm.trans k)

/-- Settles O12: an ordinary instruction writes no latch, and each of the others writes only its own. -/
theorem latchWriters : Obligations.LatchWriters := by
  unfold Obligations.LatchWriters
  intro i s t whole run
  cases illegal : i.illegalOpcode with
  | some op =>
    cases exec_unique run (exec_illegal s illegal)
    exact ⟨fun _ _ _ => ⟨rfl, rfl⟩, fun _ => ⟨rfl, rfl⟩, fun _ => rfl⟩
  | none =>
    rcases Instr.ordinary_or whole illegal with ord | rfl | rfl | rfl | rfl | ⟨n, rfl⟩
    · obtain ⟨n, u, run', keeps, -⟩ := exec_runsRow s i ord
      cases exec_unique run run'
      exact ⟨fun _ _ _ => ⟨keeps.ime, keeps.imeScheduled⟩, fun _ => ⟨keeps.halted, keeps.haltBug⟩,
        fun _ => keeps.stopped⟩
    · cases run
      exact ⟨fun ne => absurd rfl ne, fun _ => ⟨rfl, rfl⟩, fun _ => rfl⟩
    · cases run
      exact ⟨fun _ ne => absurd rfl ne, fun _ => ⟨rfl, rfl⟩, fun _ => rfl⟩
    · cases run
      exact ⟨fun _ _ ne => absurd rfl ne, fun _ => ⟨rfl, rfl⟩, fun _ => rfl⟩
    · have writes : (enterHalt s).ime = s.ime ∧ (enterHalt s).imeScheduled = s.imeScheduled ∧
          (enterHalt s).stopped = s.stopped := by
        unfold enterHalt
        split <;> exact ⟨rfl, rfl, rfl⟩
      cases run
      exact ⟨fun _ _ _ => ⟨writes.1, writes.2.1⟩, fun ne => absurd rfl ne, fun _ => writes.2.2⟩
    · cases run
      exact ⟨fun _ _ _ => ⟨rfl, rfl⟩, fun _ => ⟨rfl, rfl⟩, fun ne => absurd rfl (ne n)⟩

/-! ### The EI commit -/

/-- What a step fetches is a whole instruction. -/
theorem Fetches.wellFormed {s : State} {i : Instr} (h : Fetches s i) : i.wellFormed = true := by
  obtain ⟨rest, bytes⟩ := h
  by_contra lone
  have e : i = .prefixCb := by
    unfold Instr.wellFormed at lone
    split at lone
    · rfl
    · exact absurd rfl lone
  have dec := decode_threeBytes bytes
  have len := length_encode_decodeBytes (busRead s.pc s) (busRead (s.pc + 1) s) (busRead (s.pc + 2) s)
  have code := encode_decodeBytes (busRead s.pc s) (busRead (s.pc + 1) s) (busRead (s.pc + 2) s)
  rw [← dec, e] at len code
  rw [← len] at code
  have opcode : busRead s.pc s = 0xCB := (List.cons.inj code).1.symm
  rw [opcode] at len
  exact absurd len (by decide)

/-- A legal instruction raises no fault. -/
theorem exec_legal_fault {i : Instr} {s t : State} (whole : i.wellFormed = true) (legal : i.illegalOpcode = none)
    (run : exec i s = .next t) : t.fault = s.fault := by
  rcases Instr.ordinary_or whole legal with ord | rfl | rfl | rfl | rfl | ⟨n, rfl⟩
  · obtain ⟨n, u, run', keeps, -⟩ := exec_runsRow s i ord
    cases exec_unique run run'
    exact keeps.fault
  · cases run; rfl
  · cases run; rfl
  · cases run; rfl
  · cases run
    change (enterHalt s).fault = s.fault
    unfold enterHalt
    split <;> rfl
  · cases run; rfl

/-- After a step that runs a legal instruction, IME and its schedule are what the instruction and the EI commit leave. -/
theorem step_ime {s : State} {i : Instr} (runs : RunsNext s) (code : Fetches s i) (legal : i.illegalOpcode = none) :
    ∃ u t, exec i { s with instrAddr := s.pc, pc := s.pc + BitVec.ofNat 16 (encode i).length, cycles := 0 } = .next u ∧
      step s = .next t ∧ t.ime = (commitEi s.imeScheduled u).ime ∧
      t.imeScheduled = (commitEi s.imeScheduled u).imeScheduled := by
  obtain ⟨u, run, -⟩ :=
    exec_stores i { s with instrAddr := s.pc, pc := s.pc + BitVec.ofNat 16 (encode i).length, cycles := 0 }
  have noFault : u.fault = none := (exec_legal_fault code.wellFormed legal run).trans (blocked_none runs.1).1
  have committed : (commitEi s.imeScheduled u).fault = none := by
    rw [commitEi_cpu]
    unfold commitEi
    split <;> exact noFault
  have frame := (afterDevices_cpu (commitEi s.imeScheduled u).cycles (commitEi s.imeScheduled u)).1
  refine ⟨u, _, run, ?_, (congrArg State.ime frame :), (congrArg State.imeScheduled frame :)⟩
  rw [step_of_runsNext runs code, run]
  simp only [finishInstr, afterCpu, noFault, committed, Option.isSome_none, Bool.false_eq_true, if_false]

theorem commitEi_scheduled {u : State} (h : u.imeScheduled = true) :
    (commitEi true u).ime = true ∧ (commitEi true u).imeScheduled = false := by
  unfold commitEi
  rw [if_pos ⟨rfl, h⟩]
  exact ⟨rfl, rfl⟩

theorem commitEi_not_scheduled (u : State) : commitEi false u = u := if_neg fun c => absurd c.1 (by decide)

/-- The commit after an instruction that leaves the schedule clear is nothing. -/
theorem commitEi_cleared {w : Bool} {u : State} (h : u.imeScheduled = false) : commitEi w u = u :=
  if_neg fun c => absurd (h.symm.trans c.2) (by decide)

/-- Only DI and EI write the schedule, and only they and RETI write IME. -/
theorem exec_schedule {i : Instr} {s u : State} (whole : i.wellFormed = true) (run : exec i s = .next u) (di : i ≠ .di)
    (ei : i ≠ .ei) : u.imeScheduled = s.imeScheduled := by
  by_cases reti : i = .reti
  · subst reti; cases run; rfl
  · exact ((latchWriters i s u whole run).1 di ei reti).2

/-- Settles O11: whatever runs, IME and its schedule after the step are those after the commit. -/
theorem eiCommitsAfterNextInstruction : Obligations.EiCommitsAfterNextInstruction := by
  unfold Obligations.EiCommitsAfterNextInstruction
  intro s i runs code legal
  obtain ⟨u, t, run, hs, ime, schedule⟩ := step_ime runs code legal
  refine ⟨fun scheduled notDi => ⟨t, hs, ?_⟩, fun isDi => ⟨t, hs, ?_⟩, fun clear isEi => ⟨t, hs, ?_⟩,
    fun clear notEi notDi notReti => ⟨t, hs, ?_⟩⟩
  · have still : u.imeScheduled = true := by
      by_cases ei : i = .ei
      · subst ei; cases run; rfl
      · exact (exec_schedule code.wellFormed run notDi ei).trans scheduled
    rw [ime, schedule, scheduled]
    exact commitEi_scheduled still
  · subst isDi
    cases run
    rw [ime, schedule, commitEi_cleared rfl]
    exact ⟨rfl, rfl⟩
  · subst isEi
    cases run
    rw [ime, schedule, clear, commitEi_not_scheduled]
    exact ⟨rfl, rfl⟩
  · have latches := (latchWriters i _ u code.wellFormed run).1 notDi notEi notReti
    rw [ime, schedule, clear, commitEi_not_scheduled]
    exact ⟨latches.1, latches.2.trans clear⟩

end Sys2Proof.Machine

/-! PROOFS. The memory frame of every instruction (R82, R98): the addresses each family stores to, and that a store
after another reaches what it reached before. The obligation O38. -/

namespace Sys2Proof.Machine

/-! ### A store after another reaches the same bytes -/

/-- What a store reaches depends on the cartridge's family and mapped RTC register, and only for external RAM. -/
theorem reaches_congr {s t : State} {x y : Word} (h : ∀ a b, region x = .extRam a → region y = .extRam b →
    t.cart.family = s.cart.family ∧ t.cart.rtcMapped = s.cart.rtcMapped) : reaches t x y = reaches s x y := by
  unfold reaches
  cases ex : region x with
  | extRam a =>
    cases ey : region y with
    | extRam b =>
      obtain ⟨family, rtc⟩ := h a b ex ey
      simp only [family, rtc]
    | _ => rfl
  | _ => cases region y <;> rfl

/-- A store that is no control write of the cartridge leaves its family and mapped RTC register. -/
theorem busWrite_rtcMapped {x : Word} (h : ∀ a, region x ≠ .rom a) (v : Byte) (s : State) :
    (busWrite x v s).cart.family = s.cart.family ∧ (busWrite x v s).cart.rtcMapped = s.cart.rtcMapped := by
  unfold busWrite
  cases e : region x with
  | rom a => exact absurd e (h a)
  | extRam a =>
    rcases ramWrite_cases s.cart a v with k | k | ⟨r, k⟩ | ⟨-, k⟩ <;>
      exact ⟨(congrArg Cartridge.family k :), (congrArg Cartridge.rtcMapped k :)⟩
  | io r => cases r <;> exact ⟨rfl, rfl⟩
  | vram i => simp only; split <;> exact ⟨rfl, rfl⟩
  | oam i => simp only; split <;> exact ⟨rfl, rfl⟩
  | _ => exact ⟨rfl, rfl⟩

/-- A store that misses `y` changes nothing of what another store does to `y`: a control write, which could, reaches all
of external RAM. -/
theorem reaches_busWrite {x y : Word} {s : State} (miss : reaches s x y = false) (v : Byte) (x' : Word) :
    reaches (busWrite x v s) x' y = reaches s x' y := by
  refine reaches_congr fun a b _ ey => busWrite_rtcMapped (fun r ex => ?_) v s
  rw [reaches, ex, ey] at miss
  cases miss

/-- Stores that all miss a byte leave it. -/
theorem busRead_storeAll {y : Word} {l : List (Word × Byte)} {s : State}
    (miss : ∀ x ∈ l.map Prod.fst, reaches s x y = false) :
    busRead y (storeAll l s) = busRead y s := by
  induction l generalizing s with
  | nil => rfl
  | cons w l ih =>
    have first := miss w.1 (List.mem_cons_self ..)
    refine (ih (s := busWrite w.1 w.2 s) fun x hx => ?_).trans (busRead_busWrite_of_not_reached w.1 y w.2 s first)
    rw [reaches_busWrite first]
    exact miss x (List.mem_cons_of_mem _ hx)

/-! ### The addresses an operation stores to -/

/-- From `s` to `t` only the CPU's registers change, and what bytes stored at the addresses `as`, in order, change. -/
def StoresAt (as : List Word) (s t : State) : Prop := ∃ l, l.map Prod.fst = as ∧ t = withCpu t (storeAll l s)

theorem StoresAt.of_cpu {s t : State} (h : t = withCpu t s) : StoresAt [] s t := ⟨[], rfl, h⟩

theorem StoresAt.busWrite (a : Word) (v : Byte) (s : State) : StoresAt [a] s (busWrite a v s) := ⟨[(a, v)], rfl, rfl⟩

/-- A second store, followed by a change of the CPU's registers. -/
theorem StoresAt.busWrite₂ (a b : Word) (v w : Byte) (s : State) :
    StoresAt [a, b] s (Machine.busWrite b w (Machine.busWrite a v s)) := ⟨[(a, v), (b, w)], rfl, rfl⟩

theorem StoresAt.then_cpu {as : List Word} {s t u : State} (h : StoresAt as s t) (k : u = withCpu u t) : StoresAt as s u := by
  obtain ⟨l, e, h⟩ := h
  exact ⟨l, e, k.trans (by rw [h]; rfl)⟩

/-- A byte that none of the addresses reaches stays. -/
theorem StoresAt.busRead_eq {as : List Word} {s t : State} {y : Word} (h : StoresAt as s t)
    (miss : ∀ x ∈ as, reaches s x y = false) : busRead y t = busRead y s := by
  obtain ⟨l, rfl, h⟩ := h
  rw [h, busRead_withCpu, busRead_storeAll miss]

/-- The address of a write to the operand `r`. -/
def operandAt (r : R8) (s : State) : List Word := if r = .atHl then [getHl s] else []

theorem storesAt_writeR8 (r : R8) (v : Byte) (s : State) : StoresAt (operandAt r s) s (writeR8 r v s) := by
  cases r with
  | atHl => exact .busWrite _ _ _
  | _ => exact .of_cpu rfl

theorem storesAt_push16 (v : Word) (s : State) : StoresAt (pushedAt s) s (push16 v s) := by
  rw [push16_eq]
  exact (StoresAt.busWrite₂ _ _ _ _ _).then_cpu rfl

theorem storesAt_callTo (a : Word) (s : State) : StoresAt (pushedAt s) s (callTo a s) := (storesAt_push16 _ _).then_cpu rfl

theorem alu_cpu (op : AluOp) (v : Byte) (s : State) : alu op v s = withCpu (alu op v s) s := by cases op <;> rfl

theorem writeRr_cpu (rr : RR) (v : Word) (s : State) : writeRr rr v s = withCpu (writeRr rr v s) s := by cases rr <;> rfl

theorem popQq_cpu (q : QQ) (s : State) : popQq q s = withCpu (popQq q s) s := by cases q <;> rfl

theorem accOp_cpu (y : Fin 8) (s : State) : accOp y s = withCpu (accOp y s) s := by
  match y with
  | 0 | 1 | 2 | 3 | 4 | 5 | 6 | 7 => rfl

/-- A conditional transfer that stores nothing. -/
theorem branch_cpu {cc : Cond} {n m : Nat} {s t : State} (h : t = withCpu t s) :
    branch cc n m s t = withCpu (branch cc n m s t) s := by
  unfold branch
  split
  · exact congrArg (tick n) h
  · rfl

theorem storesAt_branch_callTo (cc : Cond) (n m : Nat) (a : Word) (s : State) :
    StoresAt (if holds cc s then pushedAt s else []) s (branch cc n m s (callTo a s)) := by
  unfold branch
  split
  · exact (storesAt_callTo a s).then_cpu rfl
  · exact .of_cpu rfl

/-- The operand field 6 is the byte at HL (R163). -/
theorem r8Of_eq_atHl_iff (z : Nat) : r8Of z = .atHl ↔ z = 6 := by
  unfold r8Of
  split <;> simp_all

/-- A CB instruction stores at HL when its operand is there, unless it is BIT. -/
theorem storesAt_executeCb (op : Byte) (s : State) :
    StoresAt (if fieldZ op = 6 ∧ fieldX op ≠ 1 then [getHl s] else []) s (executeCb op s) := by
  have operand : ∀ n, fieldX op = n → n ≠ 1 →
      (if fieldZ op = 6 ∧ fieldX op ≠ 1 then [getHl s] else []) = operandAt (r8Of (fieldZ op)) s := by
    intro n e ne
    unfold operandAt
    simp only [r8Of_eq_atHl_iff, e, ne, ne_eq, not_false_eq_true, and_true]
  have test : fieldX op = 1 → (if fieldZ op = 6 ∧ fieldX op ≠ 1 then [getHl s] else []) = [] :=
    fun e => if_neg fun c => c.2 e
  generalize (if fieldZ op = 6 ∧ fieldX op ≠ 1 then [getHl s] else []) = as at operand test ⊢
  unfold executeCb
  simp only
  split
  next e => rw [operand 0 e (by decide)]; exact (storesAt_writeR8 _ _ _).then_cpu rfl
  next e => rw [test e]; exact .of_cpu rfl
  next e => rw [operand 2 e (by decide)]; exact (storesAt_writeR8 _ _ _).then_cpu rfl
  next _ ne _ => rw [operand _ rfl ne]; exact (storesAt_writeR8 _ _ _).then_cpu rfl

theorem storesAt_prefixed (s : State) : StoresAt (storedAt .prefixCb s) s (prefixed s) := by
  cases bug : s.haltBug
  · unfold prefixed
    rw [fetch8_normal bug]
    obtain ⟨l, e, h⟩ := storesAt_executeCb (busRead s.pc s) { s with pc := s.pc + 1 }
    refine ⟨l, e, h.trans ?_⟩
    rw [show storeAll l { s with pc := s.pc + 1 } = withCpu { s with pc := s.pc + 1 } (storeAll l s) from
      storeAll_withCpu l { s with pc := s.pc + 1 } s]
    rfl
  · unfold prefixed
    rw [fetch8_withBug bug]
    obtain ⟨l, e, h⟩ := storesAt_executeCb (busRead s.pc s) { s with haltBug := false }
    refine ⟨l, e, h.trans ?_⟩
    rw [show storeAll l { s with haltBug := false } = withCpu { s with haltBug := false } (storeAll l s) from
      storeAll_withCpu l { s with haltBug := false } s]
    rfl

/-! ### Every instruction -/

/-- Every instruction stores at the addresses `storedAt` lists, family by family. -/
theorem exec_storesAt (i : Instr) (s : State) : ∃ t, exec i s = .next t ∧ StoresAt (storedAt i s) s t := by
  revert i
  apply Instr.byFamily
  case ld =>
    intro dst r ne
    have list : storedAt (.mkLd dst r) s = operandAt dst s := by
      cases dst with
      | atHl =>
        cases r with
        | atHl => exact absurd ⟨rfl, rfl⟩ ne
        | _ => rfl
      | _ => cases r <;> rfl
    exact ⟨_, exec_mkLd s dst r ne, list ▸ (storesAt_writeR8 dst (readR8 r s) s).then_cpu rfl⟩
  case ldN =>
    intro r n
    have list : storedAt (.mkLdN r n) s = operandAt r s := by cases r <;> rfl
    exact ⟨_, exec_mkLdN s r n, list ▸ (storesAt_writeR8 r n s).then_cpu rfl⟩
  case alu =>
    intro op r
    have list : storedAt (.mkAlu op r) s = [] := by cases op <;> cases r <;> rfl
    exact ⟨_, exec_mkAlu s op r, list ▸ (StoresAt.of_cpu (alu_cpu op _ s)).then_cpu rfl⟩
  case aluN =>
    intro op n
    have list : storedAt (.mkAluN op n) s = [] := by cases op <;> rfl
    exact ⟨_, exec_mkAluN s op n, list ▸ (StoresAt.of_cpu (alu_cpu op n s)).then_cpu rfl⟩
  case inc =>
    intro r
    have list : storedAt (.mkInc r) s = operandAt r s := by cases r <;> rfl
    exact ⟨_, exec_mkInc s r, list ▸ (storesAt_writeR8 r _ s).then_cpu rfl⟩
  case dec =>
    intro r
    have list : storedAt (.mkDec r) s = operandAt r s := by cases r <;> rfl
    exact ⟨_, exec_mkDec s r, list ▸ (storesAt_writeR8 r _ s).then_cpu rfl⟩
  case acc =>
    intro y
    have list : storedAt (.mkAccRot y) s = [] := by fin_cases y <;> rfl
    exact ⟨_, exec_mkAccRot s y, list ▸ (StoresAt.of_cpu (accOp_cpu y s)).then_cpu rfl⟩
  case ldRr =>
    intro rr n
    have list : storedAt (.mkLdRr rr n) s = [] := by cases rr <;> rfl
    exact ⟨_, exec_mkLdRr s rr n, list ▸ (StoresAt.of_cpu (writeRr_cpu rr n s)).then_cpu rfl⟩
  case addHl =>
    intro rr
    have list : storedAt (.mkAddHl rr) s = [] := by cases rr <;> rfl
    exact ⟨_, exec_mkAddHl s rr, list ▸ StoresAt.of_cpu rfl⟩
  case incRr =>
    intro rr
    have list : storedAt (.mkIncRr rr) s = [] := by cases rr <;> rfl
    exact ⟨_, exec_mkIncRr s rr, list ▸ (StoresAt.of_cpu (writeRr_cpu rr _ s)).then_cpu rfl⟩
  case decRr =>
    intro rr
    have list : storedAt (.mkDecRr rr) s = [] := by cases rr <;> rfl
    exact ⟨_, exec_mkDecRr s rr, list ▸ (StoresAt.of_cpu (writeRr_cpu rr _ s)).then_cpu rfl⟩
  case push =>
    intro q
    have list : storedAt (.mkPush q) s = pushedAt s := by cases q <;> rfl
    exact ⟨_, exec_mkPush s q, list ▸ (storesAt_push16 _ s).then_cpu rfl⟩
  case pop =>
    intro q
    have list : storedAt (.mkPop q) s = [] := by cases q <;> rfl
    exact ⟨_, exec_mkPop s q, list ▸ (StoresAt.of_cpu (popQq_cpu q s)).then_cpu rfl⟩
  case jrCc =>
    intro cc e
    have list : storedAt (.mkJr cc e) s = [] := by cases cc <;> rfl
    exact ⟨_, exec_mkJr s cc e, list ▸ StoresAt.of_cpu (branch_cpu rfl)⟩
  case jpCc =>
    intro cc a
    have list : storedAt (.mkJp cc a) s = [] := by cases cc <;> rfl
    exact ⟨_, exec_mkJp s cc a, list ▸ StoresAt.of_cpu (branch_cpu rfl)⟩
  case callCc =>
    intro cc a
    have list : storedAt (.mkCall cc a) s = if holds cc s then pushedAt s else [] := by cases cc <;> rfl
    exact ⟨_, exec_mkCall s cc a, list ▸ storesAt_branch_callTo cc 24 12 a s⟩
  case retCc =>
    intro cc
    have list : storedAt (.mkRet cc) s = [] := by cases cc <;> rfl
    exact ⟨_, exec_mkRet s cc, list ▸ StoresAt.of_cpu (branch_cpu rfl)⟩
  case rst =>
    intro y
    have list : storedAt (.mkRst y) s = pushedAt s := by fin_cases y <;> rfl
    exact ⟨_, exec_mkRst s y, list ▸ (storesAt_callTo _ s).then_cpu rfl⟩
  case rot =>
    intro k r
    have list : storedAt (.mkRot k r) s = operandAt r s := by cases k <;> cases r <;> rfl
    exact ⟨_, exec_mkRot s k r, list ▸ (storesAt_writeR8 r _ s).then_cpu rfl⟩
  case bitTest =>
    intro n r
    have list : storedAt (.mkBit n r) s = [] := by fin_cases n <;> cases r <;> rfl
    exact ⟨_, exec_mkBit s n r, list ▸ StoresAt.of_cpu rfl⟩
  case res =>
    intro n r
    have list : storedAt (.mkRes n r) s = operandAt r s := by fin_cases n <;> cases r <;> rfl
    exact ⟨_, exec_mkRes s n r, list ▸ (storesAt_writeR8 r _ s).then_cpu rfl⟩
  case set =>
    intro n r
    have list : storedAt (.mkSet n r) s = operandAt r s := by fin_cases n <;> cases r <;> rfl
    exact ⟨_, exec_mkSet s n r, list ▸ (storesAt_writeR8 r _ s).then_cpu rfl⟩
  case illegal =>
    intro i op ill
    have list : storedAt i s = [] := by cases i <;> cases ill <;> rfl
    exact ⟨_, exec_illegal s ill, list ▸ StoresAt.of_cpu rfl⟩
  case halt => exact ⟨_, rfl, (StoresAt.of_cpu (enterHalt_cpu s)).then_cpu rfl⟩
  case prefixCb => exact ⟨_, rfl, storesAt_prefixed s⟩
  case callA16 => exact fun a => ⟨_, rfl, (storesAt_callTo a s).then_cpu rfl⟩
  case ldAtBcA | ldAtDeA | ldAtHliA | ldAtHldA | ldhAtCA => exact ⟨_, rfl, (StoresAt.busWrite _ _ s).then_cpu rfl⟩
  case ldhAtA8A | ldAtA16A => exact fun a => ⟨_, rfl, (StoresAt.busWrite _ _ s).then_cpu rfl⟩
  case ldAtA16Sp => exact fun a => ⟨_, rfl, (StoresAt.busWrite₂ _ _ _ _ s).then_cpu rfl⟩
  case stopN8 | jrE8 | jpA16 | ldhAAtA8 | ldAAtA16 | addSpE8 | ldHlSpE8 => exact fun x => ⟨_, rfl, .of_cpu rfl⟩
  all_goals exact ⟨_, rfl, .of_cpu rfl⟩

/-- Settles O38: the instruction stores at the listed addresses, and a byte none of them reaches survives them all. -/
theorem instructionMemoryFrame : Obligations.InstructionMemoryFrame := by
  unfold Obligations.InstructionMemoryFrame
  intro i s t y run miss
  obtain ⟨u, run', stores⟩ := exec_storesAt i s
  cases exec_unique run run'
  exact stores.busRead_eq miss

end Sys2Proof.Machine

/-! PROOFS. The loads, the stores, the 16-bit steps and the stack (R200..R228, R291, R292): the operands and pairs
written and read back, the push and the pop. The obligations O13 to O17, O19 and O20. -/

namespace Sys2Proof.Machine

/-! ### The 8-bit operand -/

section
variable (s : State)

theorem readR8_writeR8_self {r : R8} (h : r ≠ .atHl) (v : Byte) : readR8 r (writeR8 r v s) = v := by
  cases r with
  | atHl => exact absurd rfl h
  | _ => rfl

/-- Writing one register leaves the others. -/
theorem readR8_writeR8_other {q r : R8} (hq : q ≠ .atHl) (hr : r ≠ .atHl) (ne : q ≠ r) (v : Byte) :
    readR8 q (writeR8 r v s) = readR8 q s := by
  cases q <;> cases r <;> first | rfl | exact absurd rfl ne | exact absurd rfl hq | exact absurd rfl hr

/-- Writing a register changes the registers and nothing else. -/
theorem writeR8_frame {r : R8} (h : r ≠ .atHl) (v : Byte) :
    writeR8 r v s = { s with a := (writeR8 r v s).a, b := (writeR8 r v s).b, c := (writeR8 r v s).c,
                             d := (writeR8 r v s).d, e := (writeR8 r v s).e, h := (writeR8 r v s).h,
                             l := (writeR8 r v s).l } := by
  cases r with
  | atHl => exact absurd rfl h
  | _ => rfl

theorem writeR8_cycles (r : R8) (v : Byte) : (writeR8 r v s).cycles = s.cycles := (keepsLatches_writeR8 r v s).cycles

end

/-- Settles O13: the operand's cases, and a load is one write of a register and its cycles. -/
theorem loadRegister : Obligations.LoadRegister := by
  unfold Obligations.LoadRegister
  intro dst r n s
  refine ⟨⟨rfl, rfl, rfl, rfl, rfl, rfl, rfl⟩, ⟨rfl, rfl⟩, fun reg => ⟨readR8_writeR8_self s reg n,
    fun q hq ne => readR8_writeR8_other s hq reg ne n, ⟨_, rfl, writeR8_frame s reg n⟩, ?_, ?_⟩⟩
  · rw [exec_mkLd s dst r fun c => reg c.1]
    simp only [reg, false_or]
    exact congrArg _ (tick_of_cycles _ (writeR8_cycles s dst _))
  · rw [exec_mkLdN, onR8, if_neg reg]
    exact congrArg _ (tick_of_cycles 8 (writeR8_cycles s dst n))

/-- Settles O14: the destination `(HL)` is one bus write. -/
theorem storeAtHl : Obligations.StoreAtHl := by
  unfold Obligations.StoreAtHl
  refine fun r n s => ⟨fun reg => ?_, ?_⟩
  · rw [exec_mkLd s .atHl r fun c => reg c.2, if_pos (.inl rfl)]
    exact congrArg _ (tick_of_cycles 8 (busWrite_cycles _ _ _))
  · exact congrArg _ (tick_of_cycles 12 (busWrite_cycles _ _ _))

/-! ### The accumulator and SP -/

/-- One step down modulo 2^16. -/
theorem add_neg_one_toNat (v : Word) : (v + (-1)).toNat = (v.toNat + 65535) % 65536 := BitVec.toNat_add v (-1)

/-- A store leaves HL, and its cycles count on. -/
theorem getHl_busWrite (a : Word) (v : Byte) (s : State) : getHl (busWrite a v s) = getHl s := by
  unfold getHl
  rw [busWrite_h, busWrite_l]

/-- Settles O15: each is one bus read into A; the steps of HL are modulo 2^16. -/
theorem loadAccumulator : Obligations.LoadAccumulator := by
  unfold Obligations.LoadAccumulator
  intro n a s
  refine ⟨rfl, rfl, ⟨_, rfl, ?_, rfl⟩, ⟨_, rfl, ?_, rfl⟩, rfl, ?_, ?_⟩
  · rw [getHl_tick, loadAStep, getHl_setHl]
    exact BitVec.toNat_add (getHl s) 1
  · rw [getHl_tick, loadAStep, getHl_setHl, add_neg_one_toNat]
  · rw [← highPage_eq]
    rfl
  · rw [← highPage_eq]
    rfl

/-- A store of A, with its cycles. -/
theorem tick_storeA (n : Nat) (a : Word) (s : State) :
    tick n (storeA a s) = { busWrite a s.a s with cycles := s.cycles + n } := tick_of_cycles n (busWrite_cycles _ _ _)

/-- Settles O16: each is one bus write of A, and SP's two bytes go low first. -/
theorem storeAccumulatorAndSp : Obligations.StoreAccumulatorAndSp := by
  unfold Obligations.StoreAccumulatorAndSp
  intro n a s
  have step : ∀ delta, tick 8 (storeAStep delta s) =
      { busWrite (getHl s) s.a s with h := (storeAStep delta s).h, l := (storeAStep delta s).l, cycles := s.cycles + 8 } :=
    fun delta => congrArg (setHl (getHl s + delta)) (tick_storeA 8 (getHl s) s)
  refine ⟨congrArg _ (tick_storeA 8 _ s), congrArg _ (tick_storeA 8 _ s), ⟨_, rfl, ?_, step 1⟩, ⟨_, rfl, ?_, step (-1)⟩,
    congrArg _ (tick_storeA 16 a s), ?_, ?_, ?_⟩
  · rw [getHl_tick, storeAStep, getHl_setHl]
    exact BitVec.toNat_add (getHl s) 1
  · rw [getHl_tick, storeAStep, getHl_setHl, add_neg_one_toNat]
  · rw [← highPage_eq]
    exact congrArg _ (tick_storeA 12 _ s)
  · rw [← highPage_eq]
    exact congrArg _ (tick_storeA 8 _ s)
  · rw [← lo8_eq, ← hi8_eq]
    exact congrArg _ (tick_of_cycles 20 ((busWrite_cycles _ _ _).trans (busWrite_cycles _ _ _)))

/-! ### The register pairs -/

section
variable (s : State)

theorem readRr_writeRr_self (rr : RR) (v : Word) : readRr rr (writeRr rr v s) = v := by
  cases rr with
  | bc => exact getBc_setBc v s
  | de => exact getDe_setDe v s
  | hl => exact getHl_setHl v s
  | sp => rfl

theorem readRr_writeRr_other {q rr : RR} (ne : q ≠ rr) (v : Word) : readRr q (writeRr rr v s) = readRr q s := by
  cases q <;> cases rr <;> first | rfl | exact absurd rfl ne

/-- A write of a pair changes the pairs and nothing else. -/
theorem tick_writeRr_frame (n : Nat) (rr : RR) (v : Word) :
    tick n (writeRr rr v s) =
      { s with b := (writeRr rr v s).b, c := (writeRr rr v s).c, d := (writeRr rr v s).d, e := (writeRr rr v s).e,
               h := (writeRr rr v s).h, l := (writeRr rr v s).l, sp := (writeRr rr v s).sp, cycles := s.cycles + n } := by
  cases rr <;> rfl

end

/-- The cycles are no part of a pair. -/
theorem readRr_tick (q : RR) (n : Nat) (s : State) : readRr q (tick n s) = readRr q s := by cases q <;> rfl

/-- Settles O17: each is one write of a pair, which the other pairs do not see. -/
theorem pairLoadsAndSteps : Obligations.PairLoadsAndSteps := by
  unfold Obligations.PairLoadsAndSteps
  intro rr n s
  have others : ∀ k v q, q ≠ rr → readRr q (tick k (writeRr rr v s)) = readRr q s := fun k v q ne => by
    rw [readRr_tick, readRr_writeRr_other s ne]
  have written : ∀ k v, readRr rr (tick k (writeRr rr v s)) = v := fun k v => by
    rw [readRr_tick, readRr_writeRr_self]
  refine ⟨⟨pair_toNat _ _, pair_toNat _ _, pair_toNat _ _, rfl⟩,
    ⟨_, exec_mkLdRr s rr n, written 12 n, others 12 n, tick_writeRr_frame s 12 rr n⟩,
    ⟨_, rfl, rfl, pair_toNat s.h s.l⟩,
    ⟨_, exec_mkIncRr s rr, ?_, others 8 _, tick_writeRr_frame s 8 rr _⟩,
    ⟨_, exec_mkDecRr s rr, ?_, others 8 _, tick_writeRr_frame s 8 rr _⟩⟩
  · rw [addRr, written]
    exact BitVec.toNat_add (readRr rr s) 1
  · rw [addRr, written, add_neg_one_toNat]

/-! ### The stack -/

/-- POP of a pair is a write of the two bytes at SP (R103, R227). -/
theorem popQq_eq (q : QQ) (s : State) :
    popQq q s = writeQq q (pair (busRead (s.sp + 1) s) (busRead s.sp s)) { s with sp := s.sp + 2 } := by
  unfold popQq
  rw [pop16_eq]

theorem tick_push16 (n : Nat) (v : Word) (s : State) :
    tick n (push16 v s) = { afterPush v s with cycles := s.cycles + n } := by
  rw [push16_eq_afterPush]
  exact tick_of_cycles n (afterPush_cycles v s)

/-- What POP leaves in the pair: AF loses its low nibble (R228). -/
theorem readQq_writeQq_self (q : QQ) (v : Word) (s : State) :
    readQq q (writeQq q v s) = if q = .af then pair (hi8 v) (lo8 v &&& 0xF0) else v := by
  cases q with
  | bc => exact getBc_setBc v s
  | de => exact getDe_setDe v s
  | hl => exact getHl_setHl v s
  | af => rfl

theorem readQq_writeQq_other {p q : QQ} (ne : p ≠ q) (v : Word) (s : State) : readQq p (writeQq q v s) = readQq p s := by
  cases p <;> cases q <;> first | rfl | exact absurd rfl ne

theorem readQq_tick (q : QQ) (n : Nat) (s : State) : readQq q (tick n s) = readQq q s := by cases q <;> rfl

/-- Settles O19: PUSH is `afterPush`, and POP writes the pair it reads at SP. -/
theorem pushAndPop : Obligations.PushAndPop := by
  unfold Obligations.PushAndPop
  intro q s
  refine ⟨⟨pair_toNat _ _, pair_toNat _ _, pair_toNat _ _, pair_toNat _ _⟩, ?_, _, exec_mkPop s q, ?_, fun p ne => ?_, ?_⟩
  · rw [exec_mkPush]
    exact congrArg _ (tick_push16 16 _ s)
  · rw [readQq_tick, popQq_eq, readQq_writeQq_self]
    split
    · rw [hi8_pair, lo8_pair, pair_toNat]
      exact congrArg _ (and_F0_toNat _)
    · exact pair_toNat _ _
  · rw [readQq_tick, popQq_eq, readQq_writeQq_other ne]
    cases p <;> rfl
  · rw [popQq_eq]
    cases q <;> rfl

/-! ### The stack in plain RAM -/

/-- Plain RAM is work RAM, by its own address or its echo, or high RAM. -/
theorem region_of_plainRam {x : Word} (h : plainRam x) :
    (∃ i, region x = .wram i ∧ x.toNat ≤ 0xFDFF ∧ (x.toNat = i + 0xC000 ∨ x.toNat = i + 0xE000) ∧ i < 0x2000) ∨
    (0xFF80 ≤ x.toNat ∧ region x = .hram (x.toNat - 0xFF80)) := by
  rcases h with ⟨lo, hi⟩ | ⟨lo, hi⟩
  · by_cases own : x.toNat ≤ 0xDFFF
    · exact .inl ⟨_, region_of_workRam lo own, by omega, by omega, by omega⟩
    · exact .inl ⟨_, region_of_echoRam (by omega) hi, by omega, by omega, by omega⟩
  · exact .inr ⟨lo, region_of_highRam lo hi⟩

theorem busRead_busWrite_of_plainRam {x : Word} (h : plainRam x) (v : Byte) (s : State) :
    busRead x (busWrite x v s) = v := by
  rcases region_of_plainRam h with ⟨i, cell, -⟩ | ⟨-, cell⟩
  · exact busRead_busWrite_of_wram cell cell v s
  · exact busRead_busWrite_of_hram cell v s

/-- Two neighbours in plain RAM are two cells, the last of work RAM and the first of its echo among them. -/
theorem not_reaches_of_plainRam {x y : Word} (hx : plainRam x) (hy : plainRam y) (next : y.toNat = x.toNat + 1) (s : State) :
    reaches s x y = false := by
  unfold reaches
  rcases region_of_plainRam hx with ⟨i, cx, -, ix, -⟩ | ⟨lx, cx⟩ <;>
    rcases region_of_plainRam hy with ⟨j, cy, -, iy, -⟩ | ⟨ly, cy⟩ <;> rw [cx, cy]
  · exact beq_false_of_ne (by omega)
  · exact beq_false_of_ne (by omega)

/-- Masking the low nibble of the low byte is masking the word's. -/
theorem pair_mask (v : Word) : pair (hi8 v) (lo8 v &&& 0xF0) = v &&& 0xFFF0#16 := by
  have halves : hi8 v ++ lo8 v = v := pair_hi8_lo8 v
  calc hi8 v ++ (lo8 v &&& 0xF0#8) = (hi8 v &&& 0xFF#8) ++ (lo8 v &&& 0xF0#8) := by
        rw [show (0xFF#8) = BitVec.allOnes 8 from rfl, BitVec.and_allOnes]
    _ = (hi8 v ++ lo8 v) &&& (0xFF#8 ++ 0xF0#8) := BitVec.and_append.symm
    _ = v &&& 0xFFF0#16 := by rw [halves]; rfl

theorem push16_sp (v : Word) (s : State) : (push16 v s).sp = s.sp - 2 := by rw [push16_eq]

/-- In plain RAM both bytes of a push are read back, the high one past the store of the low one. -/
theorem pair_busRead_push16 {s : State} (high : plainRam (s.sp - 1)) (low : plainRam (s.sp - 2)) (v : Word) :
    pair (busRead ((push16 v s).sp + 1) (push16 v s)) (busRead (push16 v s).sp (push16 v s)) = v := by
  have above : s.sp - 2 + 1 = s.sp - 1 := by bv_omega
  have next : (s.sp - 1).toNat = (s.sp - 2).toNat + 1 := by
    rcases low with ⟨lo, hi⟩ | ⟨lo, hi⟩ <;> bv_omega
  have lowByte : busRead (s.sp - 2) (push16 v s) = lo8 v := by
    rw [push16_eq]
    exact busRead_busWrite_of_plainRam low _ _
  have highByte : busRead (s.sp - 1) (push16 v s) = hi8 v := by
    rw [push16_eq]
    exact (busRead_busWrite_of_not_reached _ _ _ _ (not_reaches_of_plainRam low high next _)).trans
      (busRead_busWrite_of_plainRam high _ _)
  rw [push16_sp, above, lowByte, highByte, pair_hi8_lo8]

/-- Settles O20: POP writes to the pair the word PUSH took from it. -/
theorem pushThenPopRestores : Obligations.PushThenPopRestores := by
  unfold Obligations.PushThenPopRestores
  intro q s high low
  have popped : popQq q (tick 16 (pushQq q s)) =
      writeQq q (readQq q s) { tick 16 (pushQq q s) with sp := s.sp - 2 + 2 } := by
    rw [popQq_eq, tick_sp, busRead_tick, busRead_tick, pushQq, pair_busRead_push16 high low, push16_sp]
  refine ⟨_, _, exec_mkPush s q, exec_mkPop _ q, ?_, ?_⟩
  · have back : s.sp - 2 + 2 = s.sp := by bv_omega
    rw [tick_sp, popped, back]
    cases q <;> rfl
  · rw [readQq_tick, popped, readQq_writeQq_self, pair_mask]

end Sys2Proof.Machine

/-! PROOFS. The 8-bit arithmetic and logic (R250..R264, R266, R267): the results as numbers and bit by bit, with their
flags, and what DAA makes of a decimal sum or difference. The obligations O21 to O26. -/

namespace Sys2Proof.Machine

/-! ### The accumulator operations -/

/-- A takes a result and F its flags. -/
def takeResult (x : Flagged) (s : State) : State := { setFlags x.z x.n x.h x.c s with a := x.res }

/-- Every accumulator operation but CP takes its result. -/
theorem alu_eq_takeResult {op : AluOp} (h : op ≠ .cp) (v : Byte) (s : State) :
    alu op v s = takeResult (aluFlagged op s.a v (flagC s)) s := by
  cases op with
  | cp => exact absurd rfl h
  | _ => rfl

theorem alu_cp (v : Byte) (s : State) : alu .cp v s =
    setFlags (subFlagged s.a v false).z true (subFlagged s.a v false).h (subFlagged s.a v false).c s := rfl

theorem addFlagged_toNat (a v : Byte) (c : Bool) :
    (addFlagged a v c).res.toNat = (a.toNat + v.toNat + c.toNat) % 256 := by
  have carry : (carryIn c).toNat = c.toNat := by cases c <;> rfl
  change (a + v + carryIn c).toNat = _
  rw [BitVec.toNat_add, BitVec.toNat_add, carry, Nat.mod_add_mod]

theorem subFlagged_toNat (a v : Byte) (c : Bool) :
    ((subFlagged a v c).res.toNat : Int) = ((a.toNat : Int) - v.toNat - c.toNat) % 256 := by
  have carry : (carryIn c).toNat = c.toNat := by cases c <;> rfl
  have bound := c.toNat_le
  have hv := v.isLt
  change ((a - v - carryIn c).toNat : Int) = _
  rw [BitVec.toNat_sub, BitVec.toNat_sub, carry]
  omega

section
variable (n : Nat) (s : State)

theorem adds_takeResult (v : Byte) (c : Bool) :
    Adds v c.toNat n s (.next (tick n (takeResult (addFlagged s.a v c) s))) :=
  ⟨_, rfl, rfl, addFlagged_toNat s.a v c, flagsAre_of_pack rfl⟩

theorem subtracts_takeResult (v : Byte) (c : Bool) :
    Subtracts false v c.toNat n s (.next (tick n (takeResult (subFlagged s.a v c) s))) :=
  ⟨_, rfl, rfl, _, subFlagged_toNat s.a v c, rfl, flagsAre_of_pack rfl⟩

theorem subtracts_cp (v : Byte) : Subtracts true v 0 n s (.next (tick n (alu .cp v s))) :=
  ⟨_, rfl, rfl, _, subFlagged_toNat s.a v false, rfl, flagsAre_of_pack rfl⟩

theorem combines_takeResult {f : Bool → Bool → Bool} {v res : Byte} (half : Bool)
    (bits : ∀ j, bit res j = f (bit s.a j) (bit v j)) :
    Combines f half v n s (.next (tick n (takeResult (logicFlagged res half) s))) :=
  ⟨_, rfl, rfl, fun j _ => bits j, flagsAre_of_pack rfl⟩

end

/-- Settles O21: ADD is ADC with the carry clear, in all three operand forms. -/
theorem addAndAdc : Obligations.AddAndAdc := by
  unfold Obligations.AddAndAdc
  intro r v s
  rw [exec_mkAlu, exec_mkAluN, exec_mkAlu, exec_mkAluN]
  exact ⟨adds_takeResult _ s _ false, adds_takeResult _ s _ false, adds_takeResult _ s _ _, adds_takeResult _ s _ _⟩

/-- Settles O22: SUB is SBC with the carry clear, and CP is SUB without its result. -/
theorem subSbcAndCp : Obligations.SubSbcAndCp := by
  unfold Obligations.SubSbcAndCp
  intro r v s
  rw [exec_mkAlu, exec_mkAluN, exec_mkAlu, exec_mkAluN, exec_mkAlu, exec_mkAluN]
  exact ⟨subtracts_takeResult _ s _ false, subtracts_takeResult _ s _ false, subtracts_takeResult _ s _ _,
    subtracts_takeResult _ s _ _, subtracts_cp _ s _, subtracts_cp _ s _⟩

/-- Settles O23: the logic operations bit by bit. -/
theorem andXorAndOr : Obligations.AndXorAndOr := by
  unfold Obligations.AndXorAndOr
  intro r v s
  have hand : ∀ v j, bit (s.a &&& v) j = and (bit s.a j) (bit v j) := fun v j => BitVec.getLsbD_and
  have hxor : ∀ v j, bit (s.a ^^^ v) j = xor (bit s.a j) (bit v j) := fun v j => BitVec.getLsbD_xor
  have hor : ∀ v j, bit (s.a ||| v) j = or (bit s.a j) (bit v j) := fun v j => BitVec.getLsbD_or
  rw [exec_mkAlu, exec_mkAluN, exec_mkAlu, exec_mkAluN, exec_mkAlu, exec_mkAluN]
  exact ⟨combines_takeResult _ s true (hand _), combines_takeResult _ s true (hand v),
    combines_takeResult _ s false (hxor _), combines_takeResult _ s false (hxor v),
    combines_takeResult _ s false (hor _), combines_takeResult _ s false (hor v)⟩

/-- Settles O24: the operand takes the result and F its flags, C as it was. -/
theorem incrementAndDecrement : Obligations.IncrementAndDecrement := by
  unfold Obligations.IncrementAndDecrement
  intro r s
  have frame : ∀ n z m h c v, tick n (setFlags z m h c (writeR8 r v s)) =
      { writeR8 r v s with f := packFlags z m h c, cycles := s.cycles + n } :=
    fun n z m h c v => tick_of_cycles n (writeR8_cycles s r v)
  refine ⟨⟨_, readR8 r s + 1, exec_mkInc s r, BitVec.toNat_add _ 1, frame _ _ _ _ _ _, ?_⟩,
    ⟨_, readR8 r s - 1, exec_mkDec s r, ?_, frame _ _ _ _ _ _, ?_⟩⟩
  · exact flagsAre_of_pack rfl
  · rw [BitVec.toNat_sub, Nat.add_comm]
    rfl
  · exact flagsAre_of_pack rfl

/-! ### DAA, SCF and CCF -/

/-- DAA's adjustment is the sum of its two parts (R264). -/
theorem adjustment_toNat (low high : Bool) :
    ((if low then 0x06#8 else 0) ||| (if high then 0x60#8 else 0)).toNat =
      (if low then 6 else 0) + (if high then 0x60 else 0) := by
  cases low <;> cases high <;> rfl

/-- After an addition the adjustment is added. -/
theorem daaFlagged_add_toNat (a : Byte) (h c : Bool) :
    (daaFlagged a false h c).res.toNat = (a.toNat + (if h ∨ a.toNat % 16 > 9 then 6 else 0) +
      (if c ∨ a.toNat > 0x99 then 0x60 else 0)) % 256 := by
  change (a + ((if h || decide (a.toNat % 16 > 9) then 0x06#8 else 0) |||
    (if c || decide (a.toNat > 0x99) then 0x60#8 else 0))).toNat = _
  rw [BitVec.toNat_add, adjustment_toNat]
  simp only [Bool.or_eq_true, decide_eq_true_eq, Nat.add_assoc]

/-- After a subtraction it is taken away. -/
theorem daaFlagged_sub_toNat (a : Byte) (h c : Bool) :
    (daaFlagged a true h c).res.toNat = (a.toNat + 512 - (if h then 6 else 0) - (if c then 0x60 else 0)) % 256 := by
  change (a - ((if h then 0x06#8 else 0) ||| (if c then 0x60#8 else 0))).toNat = _
  rw [BitVec.toNat_sub, adjustment_toNat]
  split_ifs <;> omega

/-- DAA writes A and F: the state it leaves. -/
theorem exec_daa (s : State) : exec .daa s = .next (tick 4 (takeResult (daaFlagged s.a (flagN s) (flagH s) (flagC s)) s)) :=
  rfl

/-- Settles O25: DAA in its two cases, and SCF and CCF. -/
theorem daaScfAndCcf : Obligations.DaaScfAndCcf := by
  unfold Obligations.DaaScfAndCcf
  intro s
  refine ⟨⟨rfl, rfl, rfl, rfl⟩, ⟨_, exec_daa s, rfl, fun add => ?_, fun sub => ?_⟩,
    ⟨_, rfl, rfl, flagsAre_of_pack rfl⟩, ⟨_, rfl, rfl, flagsAre_of_pack rfl⟩⟩
  · rw [add]
    exact ⟨daaFlagged_add_toNat _ _ _, flagsAre_of_pack rfl⟩
  · rw [sub]
    exact ⟨daaFlagged_sub_toNat _ _ _, flagsAre_of_pack rfl⟩

/-! ### What DAA is for -/

theorem bcd_toNat {x : Nat} (h : x < 100) : (bcd x).toNat = x / 10 * 16 + x % 10 := by
  unfold bcd
  rw [BitVec.toNat_ofNat]
  omega

/-- The two digits of a number below 100, read back. -/
theorem decimal_digits {d u : Nat} (hu : u < 10) : (10 * d + u) / 10 = d ∧ (10 * d + u) % 10 = u := by omega

/-- The adjusted sum of two decimal numbers is their decimal sum, and its carry the decimal carry: with the carries
`lo` and `hi` out of the two digits `u` and `d`, the binary sum lacks 6 for the one and 0x60 for the other. -/
theorem decimal_sum {x y c : Nat} (hx : x < 100) (hy : y < 100) (hc : c ≤ 1) (sum : Nat)
    (e : sum = x / 10 * 16 + x % 10 + (y / 10 * 16 + y % 10) + c) :
    (sum % 256 + (if x % 10 + y % 10 + c > 15 ∨ sum % 256 % 16 > 9 then 6 else 0) +
      (if sum > 255 ∨ sum % 256 > 0x99 then 0x60 else 0)) % 256 = (x + y + c) % 100 / 10 * 16 + (x + y + c) % 100 % 10 ∧
    ((sum > 255 ∨ sum % 256 > 0x99) ↔ x + y + c ≥ 100) := by
  obtain ⟨lo, u, hlo, hu, units⟩ : ∃ lo u, lo ≤ 1 ∧ u < 10 ∧ x % 10 + y % 10 + c = 10 * lo + u :=
    ⟨_, _, by omega, Nat.mod_lt _ (by decide), (Nat.div_add_mod _ 10).symm⟩
  obtain ⟨hi, d, hhi, hd, tens⟩ : ∃ hi d, hi ≤ 1 ∧ d < 10 ∧ x / 10 + y / 10 + lo = 10 * hi + d :=
    ⟨_, _, by omega, Nat.mod_lt _ (by decide), (Nat.div_add_mod _ 10).symm⟩
  have binary : sum + 6 * lo = 160 * hi + 16 * d + u := by omega
  have total : x + y + c = 100 * hi + (10 * d + u) := by omega
  have result : (x + y + c) % 100 = 10 * d + u := by omega
  have half : (x % 10 + y % 10 + c > 15 ∨ sum % 256 % 16 > 9) ↔ lo = 1 := by omega
  have carry : (sum > 255 ∨ sum % 256 > 0x99) ↔ hi = 1 := by omega
  rw [result, (decimal_digits hu).1, (decimal_digits hu).2, total]
  simp only [half, carry]
  clear e total units tens half carry
  constructor
  · split_ifs <;> omega
  · omega

/-- The adjusted difference of two decimal numbers is their decimal difference. -/
theorem decimal_difference {x y c : Nat} (hx : x < 100) (hy : y < 100) (hc : c ≤ 1) (diff : Nat)
    (e : (diff : Int) = ((x / 10 * 16 + x % 10 : Nat) - (y / 10 * 16 + y % 10 : Nat) - c : Int) % 256) :
    (diff + 512 - (if x % 10 < y % 10 + c then 6 else 0) -
      (if x / 10 * 16 + x % 10 < y / 10 * 16 + y % 10 + c then 0x60 else 0)) % 256 =
        (x + 100 - y - c) % 100 / 10 * 16 + (x + 100 - y - c) % 100 % 10 ∧
    (x / 10 * 16 + x % 10 < y / 10 * 16 + y % 10 + c ↔ x < y + c) := by
  obtain ⟨lo, u, hlo, hu, units⟩ : ∃ lo u, lo ≤ 1 ∧ u < 10 ∧ x % 10 + 10 * lo = y % 10 + c + u := by
    by_cases h : x % 10 < y % 10 + c
    · exact ⟨1, x % 10 + 10 - (y % 10 + c), by omega, by omega, by omega⟩
    · exact ⟨0, x % 10 - (y % 10 + c), by omega, by omega, by omega⟩
  obtain ⟨hi, d, hhi, hd, tens⟩ : ∃ hi d, hi ≤ 1 ∧ d < 10 ∧ x / 10 + 10 * hi = y / 10 + lo + d := by
    by_cases h : x / 10 < y / 10 + lo
    · exact ⟨1, x / 10 + 10 - (y / 10 + lo), by omega, by omega, by omega⟩
    · exact ⟨0, x / 10 - (y / 10 + lo), by omega, by omega, by omega⟩
  have binary : (diff : Int) = (16 * d + u + 6 * lo - 160 * hi) % 256 := by omega
  have total : x + 100 - y - c + 100 * hi = 100 + (10 * d + u) := by omega
  have result : (x + 100 - y - c) % 100 = 10 * d + u := by omega
  have half : x % 10 < y % 10 + c ↔ lo = 1 := by omega
  have borrow : x / 10 * 16 + x % 10 < y / 10 * 16 + y % 10 + c ↔ hi = 1 := by omega
  have decimal : x < y + c ↔ hi = 1 := by omega
  rw [result, (decimal_digits hu).1, (decimal_digits hu).2]
  simp only [half, borrow, decimal]
  clear e total units tens half borrow decimal
  refine ⟨?_, trivial⟩
  split_ifs <;> omega

/-- Settles O26: DAA reads the half carry, the carry and the sum (or difference) ADC (or SBC) left. -/
theorem decimalAdjustIsDecimal : Obligations.DecimalAdjustIsDecimal := by
  unfold Obligations.DecimalAdjustIsDecimal
  intro s x y hx hy ha
  have hc := (flagC s).toNat_le
  have ax : s.a.toNat = x / 10 * 16 + x % 10 := by rw [ha, bcd_toNat hx]
  have vy := bcd_toNat hy
  have modx : (x / 10 * 16 + x % 10) % 16 = x % 10 := by omega
  have mody : (y / 10 * 16 + y % 10) % 16 = y % 10 := by omega
  obtain ⟨-, -, -, adds⟩ := addAndAdc .a (bcd y) s
  obtain ⟨-, -, -, subtracts, -⟩ := subSbcAndCp .a (bcd y) s
  refine ⟨?sum, ?difference⟩
  case sum =>
    obtain ⟨t, run, -, sum, flags⟩ := adds
    obtain ⟨-, ⟨u, daa, -, add, -⟩, -⟩ := daaScfAndCcf t
    obtain ⟨-, n, h, c, -⟩ := flags
    obtain ⟨adjusted, -, -, -, carry, -⟩ := add n
    rw [ax, vy] at sum h c
    have decimal := decimal_sum hx hy hc _ rfl
    refine ⟨t, u, run, daa, BitVec.eq_of_toNat_eq ?_, ?_⟩
    · rw [bcd_toNat (Nat.mod_lt _ (by decide)), ← decimal.1, adjusted, h, c, sum, modx, mody]
      simp only [decide_eq_true_eq]
    · rw [carry, c, sum, ← Bool.decide_or]
      exact decide_eq_decide.2 decimal.2
  case difference =>
    obtain ⟨t, run, -, res, diff, ta, flags⟩ := subtracts
    obtain ⟨-, ⟨u, daa, -, -, sub⟩, -⟩ := daaScfAndCcf t
    obtain ⟨-, n, h, c, -⟩ := flags
    obtain ⟨adjusted, -, -, -, carry, -⟩ := sub n
    rw [ax, vy] at diff h c
    have ta' : t.a = res := ta
    have decimal := decimal_difference hx hy hc _ diff
    refine ⟨t, u, run, daa, BitVec.eq_of_toNat_eq ?_, ?_⟩
    · rw [bcd_toNat (Nat.mod_lt _ (by decide)), ← decimal.1, adjusted, h, c, ta', modx, mody]
      simp only [decide_eq_true_eq]
    · rw [carry, c]
      exact decide_eq_decide.2 decimal.2

end Sys2Proof.Machine

/-! PROOFS. The rotates and shifts bit by bit, BIT, RES and SET (R310..R325), and the control transfers (R350..R361).
The obligations O29 to O33. -/

namespace Sys2Proof.Machine

/-! ### Rotates and shifts -/

/-- A carry put into bit 0. -/
theorem bit_carryIn (c : Bool) (j : Nat) : bit (carryIn c) j = (decide (j = 0) && c) := by
  cases c
  · simp [bit, carryIn]
  · simp [bit, carryIn, BitVec.getLsbD_one]

/-- A carry put into bit 7. -/
theorem bit_carryIn_shifted (c : Bool) {j : Nat} (h : j < 8) : bit (carryIn c <<< 7) j = (decide (j = 7) && c) := by
  have bits := bit_carryIn c (j - 7)
  unfold bit at bits ⊢
  rw [BitVec.getLsbD_shiftLeft, bits]
  interval_cases j <;> cases c <;> rfl

/-- Every bit of a result is the bit of the operand, or of the carry, that R311..R322 name. -/
theorem rotate_bit (k : RotOp) (v : Byte) (c : Bool) {j : Nat} (h : j < 8) :
    bit (rotate k v c).1 j = rotatedBit k v c j := by
  have bit0 := fun b => bit_carryIn b j
  have bit7 := fun b => bit_carryIn_shifted b h
  unfold bit at bit0 bit7
  cases k <;> simp only [rotate, rotatedBit, bit, BitVec.getLsbD_or, BitVec.getLsbD_and, BitVec.getLsbD_shiftLeft,
    BitVec.getLsbD_ushiftRight, bit0, bit7]
  all_goals interval_cases j <;> simp

theorem rotate_out (k : RotOp) (v : Byte) (c : Bool) : (rotate k v c).2 = rotatedOut k v := by cases k <;> rfl

/-- Settles O29: the result bit by bit, the flags from it and from the bit sent out. -/
theorem rotatesAndShifts : Obligations.RotatesAndShifts := by
  unfold Obligations.RotatesAndShifts
  refine ⟨fun k i s listed => ?_, fun k r s => ?_⟩
  · have run : exec i s = .next (tick 4 (rotateA k s)) := by
      simp only [List.mem_cons, Prod.mk.injEq, List.not_mem_nil, or_false] at listed
      rcases listed with ⟨rfl, rfl⟩ | ⟨rfl, rfl⟩ | ⟨rfl, rfl⟩ | ⟨rfl, rfl⟩ <;> rfl
    refine ⟨_, run, rfl, fun j h => rotate_bit k s.a (flagC s) h, flagsAre_of_pack ?_⟩
    rw [← rotate_out k s.a (flagC s)]
    rfl
  · refine ⟨_, (rotate k (readR8 r s) (flagC s)).1, exec_mkRot s k r, fun j h => rotate_bit k _ _ h,
      tick_of_cycles _ (writeR8_cycles s r _), flagsAre_of_pack ?_⟩
    rw [← rotate_out k (readR8 r s) (flagC s)]
    rfl

/-! ### BIT, RES and SET -/

/-- The mask of one bit. -/
theorem bit_mask (n j : Nat) (h : j < 8) : bit (1#8 <<< n) j = decide (j = n) := by
  unfold bit
  rw [BitVec.getLsbD_shiftLeft, BitVec.getLsbD_one]
  simp only [h, decide_true, Bool.true_and]
  rcases Nat.lt_trichotomy j n with lt | rfl | gt
  · simp [lt, Nat.ne_of_lt lt]
  · simp
  · simp [Nat.not_lt.2 (Nat.le_of_lt gt), Nat.ne_of_gt gt]; omega

/-- Settles O30: BIT writes F; RES and SET write back the operand with one bit changed. -/
theorem bitResAndSet : Obligations.BitResAndSet := by
  unfold Obligations.BitResAndSet
  intro n r s
  refine ⟨⟨_, exec_mkBit s n r, rfl, flagsAre_of_pack rfl⟩,
    ⟨readR8 r s &&& ~~~(1#8 <<< n.val), ?_, fun j h => ?_⟩, ⟨readR8 r s ||| 1#8 <<< n.val, ?_, fun j h => ?_⟩⟩
  · rw [exec_mkRes]
    exact congrArg _ (tick_of_cycles _ (writeR8_cycles s r _))
  · have mask := bit_mask n j h
    unfold bit at mask ⊢
    rw [BitVec.getLsbD_and, BitVec.getLsbD_not, mask]
    by_cases e : j = n.val <;> simp [e, h]
  · rw [exec_mkSet]
    exact congrArg _ (tick_of_cycles _ (writeR8_cycles s r _))
  · have mask := bit_mask n j h
    unfold bit at mask ⊢
    rw [BitVec.getLsbD_or, mask]
    by_cases e : j = n.val <;> simp [e]

/-! ### Control transfers -/

/-- Settles O31: a taken jump writes PC, one that is not taken counts its cycles. -/
theorem jumps : Obligations.Jumps := by
  unfold Obligations.Jumps
  intro cc a e s
  refine ⟨⟨rfl, rfl, rfl, rfl⟩, rfl, rfl, exec_mkJp s cc a, s.pc + sext16 e, add_sext16_toNat s.pc e, rfl, ?_⟩
  exact exec_mkJr s cc e

/-- A taken call: the push of PC, then the jump. -/
theorem tick_callTo (n : Nat) (a : Word) (s : State) :
    tick n (callTo a s) = { afterPush s.pc s with pc := a, cycles := s.cycles + n } := by
  rw [callTo, push16_eq_afterPush]
  exact tick_of_cycles n (afterPush_cycles s.pc s)

/-- Settles O32: a call is a push and a jump; an untaken one counts its cycles. -/
theorem callsAndRestarts : Obligations.CallsAndRestarts := by
  unfold Obligations.CallsAndRestarts
  intro cc a y s
  refine ⟨congrArg _ (tick_callTo 24 a s), ?_, ?_⟩
  · rw [exec_mkCall, branch, tick_callTo]
    rfl
  · rw [exec_mkRst, tick_callTo, Nat.mul_comm]

/-- A return: PC from the two bytes at SP. -/
theorem returnTo_eq (s : State) :
    returnTo s = { s with pc := pair (busRead (s.sp + 1) s) (busRead s.sp s), sp := s.sp + 2 } := by
  unfold returnTo
  rw [pop16_eq]
  rfl

theorem returnFromInterrupt_eq (s : State) : returnFromInterrupt s =
    { s with pc := pair (busRead (s.sp + 1) s) (busRead s.sp s), sp := s.sp + 2, ime := true } := by
  unfold returnFromInterrupt
  rw [pop16_eq]

/-- Settles O33: each pops PC. -/
theorem returns : Obligations.Returns := by
  unfold Obligations.Returns
  intro cc s
  refine ⟨pair (busRead (s.sp + 1) s) (busRead s.sp s), pair_toNat _ _, ?_, ?_, ?_⟩
  · exact congrArg (fun t => Host.Outcome.next (tick 16 t)) (returnTo_eq s)
  · rw [exec_mkRet, returnTo_eq]
    rfl
  · exact congrArg (fun t => Host.Outcome.next (tick 16 t)) (returnFromInterrupt_eq s)

end Sys2Proof.Machine

/-! PROOFS. The bus: the video memories behind their gates (R87, R89), open bus (R90, R93), IF and IE (R42, R43) and the
cartridge's registers, ROM windows and banked RAM (R125..R133). The obligations O40 to O44. -/

namespace Sys2Proof.Machine

/-! ### The decoder on the other ranges -/

section
variable {x : Word}

theorem region_of_rom (hi : x.toNat ≤ 0x7FFF) : region x = .rom x.toNat := by
  unfold region
  simp only
  rw [if_pos hi]

theorem region_of_vram (lo : 0x8000 ≤ x.toNat) (hi : x.toNat ≤ 0x9FFF) : region x = .vram (x.toNat - 0x8000) := by
  unfold region
  simp only
  rw [if_neg (by omega), if_pos hi]

theorem region_of_extRam (lo : 0xA000 ≤ x.toNat) (hi : x.toNat ≤ 0xBFFF) : region x = .extRam x.toNat := by
  unfold region
  simp only
  rw [if_neg (by omega), if_neg (by omega), if_pos hi]

theorem region_of_oam (lo : 0xFE00 ≤ x.toNat) (hi : x.toNat ≤ 0xFE9F) : region x = .oam (x.toNat - 0xFE00) := by
  unfold region
  simp only
  rw [if_neg (by omega), if_neg (by omega), if_neg (by omega), if_neg (by omega), if_neg (by omega), if_pos hi]

theorem region_of_unused (lo : 0xFEA0 ≤ x.toNat) (hi : x.toNat ≤ 0xFEFF) : region x = .unused := by
  unfold region
  simp only
  rw [if_neg (by omega), if_neg (by omega), if_neg (by omega), if_neg (by omega), if_neg (by omega), if_neg (by omega),
    if_pos hi]

theorem region_of_io (lo : 0xFF00 ≤ x.toNat) (hi : x.toNat ≤ 0xFF7F) : region x = .io (ioReg x.toNat) := by
  unfold region
  simp only
  rw [if_neg (by omega), if_neg (by omega), if_neg (by omega), if_neg (by omega), if_neg (by omega), if_neg (by omega),
    if_neg (by omega), if_pos hi]

end

/-! ### The video memories -/

theorem vramBlocked_iff (s : State) : vramBlocked s = true ↔ s.ppu.lcdOn = true ∧ s.ppu.mode = .draw := by
  unfold vramBlocked
  rw [Bool.and_eq_true, beq_iff_eq]

theorem oamBlocked_iff (s : State) : oamBlocked s = true ↔
    s.dma.active = true ∨ s.ppu.lcdOn = true ∧ (s.ppu.mode = .oamScan ∨ s.ppu.mode = .draw) := by
  unfold oamBlocked
  rw [Bool.or_eq_true, Bool.and_eq_true, Bool.or_eq_true, beq_iff_eq, beq_iff_eq]

section
variable {x : Word} {i : Nat} {s : State}

theorem vram_closed (cell : region x = .vram i) (closed : vramBlocked s = true) (v : Byte) :
    busRead x s = 0xFF ∧ busWrite x v s = s := by
  simp only [busRead, busWrite, cell, closed, if_true, and_self]

theorem oam_closed (cell : region x = .oam i) (closed : oamBlocked s = true) (v : Byte) :
    busRead x s = 0xFF ∧ busWrite x v s = s := by
  simp only [busRead, busWrite, cell, closed, if_true, and_self]

/-- A write to VRAM does not close it. -/
theorem vram_open (cell : region x = .vram i) (opened : ¬vramBlocked s = true) (v : Byte) :
    busRead x (busWrite x v s) = v := by
  simp only [busRead, busWrite, cell, opened]
  exact (if_neg opened).trans (memRead_memWrite_self _ _ _)

/-- A write to OAM does not close it. -/
theorem oam_open (cell : region x = .oam i) (opened : ¬oamBlocked s = true) (v : Byte) :
    busRead x (busWrite x v s) = v := by
  simp only [busRead, busWrite, cell, opened]
  exact (if_neg opened).trans (memRead_memWrite_self _ _ _)

end

/-- Settles O40: each memory behind its gate. -/
theorem videoMemoryGating : Obligations.VideoMemoryGating := by
  unfold Obligations.VideoMemoryGating
  intro x v s
  rw [← vramBlocked_iff, ← oamBlocked_iff]
  refine ⟨fun lo hi => ?_, fun lo hi => ?_⟩
  · have cell := region_of_vram lo hi
    exact ⟨fun closed => vram_closed cell closed v, fun opened => vram_open cell opened v⟩
  · have cell := region_of_oam lo hi
    exact ⟨fun closed => oam_closed cell closed v, fun opened => oam_open cell opened v⟩

/-! ### Open bus -/

/-- The unmapped I/O addresses (R93). -/
theorem ioReg_unmapped {a : Nat} (h : a = 0xFF03 ∨ 0xFF08 ≤ a ∧ a ≤ 0xFF0E ∨ 0xFF4C ≤ a ∧ a ≤ 0xFF4F ∨
    0xFF51 ≤ a ∧ a ≤ 0xFF7F) : ioReg a = .unmapped := by
  unfold ioReg
  iterate 22 refine (if_neg (by omega)).trans ?_
  rfl

/-- Settles O41: nothing answers there. -/
theorem unmappedReadsOpenBus : Obligations.UnmappedReadsOpenBus := by
  unfold Obligations.UnmappedReadsOpenBus
  intro x v s range
  by_cases unused : 0xFEA0 ≤ x.toNat ∧ x.toNat ≤ 0xFEFF
  · simp only [busRead, busWrite, region_of_unused unused.1 unused.2, and_self]
  · have io := range.resolve_left unused
    have cell := region_of_io (x := x) (by omega) (by omega)
    rw [ioReg_unmapped io] at cell
    simp only [busRead, busWrite, cell, ioRead, ioWrite, and_self]

/-! ### IF and IE -/

theorem low5_toNat (v : Byte) : (v.extractLsb' 0 5).toNat = v.toNat % 32 := by simp

/-- IF's top three bits read as 1. -/
theorem readIf_toNat (x : BitVec 5) : (0xE0#8 ||| x.zeroExtend 8).toNat = 0xE0 + x.toNat := by
  revert x
  decide

/-- IE's top three bits read as 0. -/
theorem readIe_toNat (x : BitVec 5) : (x.zeroExtend 8).toNat = x.toNat := by
  revert x
  decide

/-- Settles O42: both registers keep the low five bits of the byte written. -/
theorem interruptRegisters : Obligations.InterruptRegisters := by
  unfold Obligations.InterruptRegisters
  intro v s
  have ifAt : region 0xFF0F = .io .ifFlags := by decide
  have ieAt : region 0xFFFF = .ie := by decide
  simp only [busRead, busWrite, ifAt, ieAt, ioRead, ioWrite, readIf, readIe]
  exact ⟨low5_toNat v, (readIf_toNat _).trans (congrArg _ (low5_toNat v)), low5_toNat v,
    (readIe_toNat _).trans (low5_toNat v)⟩

/-! ### The cartridge's registers and ROM windows -/

section
variable {x : Word}

theorem busWrite_of_rom (hi : x.toNat ≤ 0x7FFF) (v : Byte) (s : State) :
    busWrite x v s = { s with cart := s.cart.controlWrite x.toNat v } := by
  simp only [busWrite, region_of_rom hi]

/-- A ROM address past the boot overlay, or with the overlay off, shows the cartridge. -/
theorem busRead_of_rom {s : State} (hi : x.toNat ≤ 0x7FFF) (shown : s.bootVisible = false ∨ 0x00FF < x.toNat) :
    busRead x s = memRead s.cart.rom (s.cart.romIndex x.toNat) := by
  have cart : ¬(x.toNat ≤ 0x00FF ∧ s.bootVisible = true) := by
    rintro ⟨low, visible⟩
    rcases shown with off | high
    · exact absurd (off.symm.trans visible) (by decide)
    · omega
  simp only [busRead, region_of_rom hi, if_neg cart]
  rfl

end

/-- The low nibble 0xA enables RAM (R128). -/
theorem ramEnable_eq (v : Byte) : (v &&& 0x0F == 0x0A) = decide (v.toNat % 16 = 10) := by
  have low : (v &&& 0x0F).toNat = v.toNat % 16 := Nat.and_two_pow_sub_one_eq_mod v.toNat 4
  rw [Bool.eq_iff_iff, beq_iff_eq, decide_eq_true_eq, ← low, ← BitVec.toNat_inj]
  rfl

/-- The mask of each family keeps the low bits of the bank number (R129). -/
theorem romBankMask_toNat {f : Family} (h : f ≠ .none) (v : Byte) : (v &&& romBankMask f).toNat =
    v.toNat % (match f with | .mbc1 => 32 | .mbc2 => 16 | .mbc3 => 128 | .mbc5 | .none => 256) := by
  cases f with
  | none => exact absurd rfl h
  | mbc1 => exact Nat.and_two_pow_sub_one_eq_mod v.toNat 5
  | mbc2 => exact Nat.and_two_pow_sub_one_eq_mod v.toNat 4
  | mbc3 => exact Nat.and_two_pow_sub_one_eq_mod v.toNat 7
  | mbc5 => exact Nat.and_two_pow_sub_one_eq_mod v.toNat 8

/-- Zero is remapped to one (R129). -/
theorem remap_toNat (m : Byte) : (if m = 0 then 1 else m).toNat = max 1 m.toNat := by
  split
  next zero => rw [zero]; rfl
  next nonzero =>
    have pos : m.toNat ≠ 0 := fun e => nonzero (BitVec.eq_of_toNat_eq e)
    omega

/-- Settles O43: each register's region, and the window each half of the ROM range shows. -/
theorem cartridgeBanking : Obligations.CartridgeBanking := by
  unfold Obligations.CartridgeBanking
  intro x v s family
  refine ⟨fun hi => ?enable, fun lo hi => ?select, fun off hi => ?bank0, fun lo hi => ?bankN⟩
  case enable =>
    rw [busWrite_of_rom (by omega), Cartridge.controlWrite, if_neg family, if_pos (by omega), ramEnable_eq]
  case select =>
    refine ⟨_, ?_, (remap_toNat (v &&& romBankMask s.cart.family)).trans ?_⟩
    · rw [busWrite_of_rom (by omega), Cartridge.controlWrite, if_neg family, if_neg (by omega), if_pos (by omega)]
      rfl
    · rw [romBankMask_toNat family]
      revert family
      generalize s.cart.family = f
      intro family
      cases f <;> rfl
  case bank0 => rw [busRead_of_rom (by omega) (.inl off), Cartridge.romIndex, if_pos (by omega)]
  case bankN => rw [busRead_of_rom hi (.inr (by omega)), Cartridge.romIndex, if_neg (by omega)]

/-! ### Banked external RAM -/

section
variable {k : Cartridge}

theorem ramOn_iff (k : Cartridge) : k.ramOn = true ↔ k.family = .none ∨ k.ramEnable = true := by
  unfold Cartridge.ramOn
  cases k.family <;> simp

/-- No RTC register is mapped unless MBC3 has its RAM enabled and one selected (R136). -/
theorem rtcMapped_none (h : k.family = .mbc3 → k.ramEnable = false ∨ k.rtcSel = none) : k.rtcMapped = none := by
  unfold Cartridge.rtcMapped
  cases f : k.family with
  | mbc3 => rcases h f with off | none' <;> simp [*]
  | _ => rfl

theorem ramRead_banked (mbc2 : k.family ≠ .mbc2) (rtc : k.rtcMapped = none) (a : Nat) : k.ramRead a = k.bankedRead a := by
  rw [Cartridge.ramRead, if_neg mbc2, rtc]

theorem ramWrite_banked (mbc2 : k.family ≠ .mbc2) (rtc : k.rtcMapped = none) (a : Nat) (v : Byte) :
    k.ramWrite a v = k.bankedWrite a v := by
  rw [Cartridge.ramWrite, if_neg mbc2, rtc]

end

/-- Settles O44: outside MBC2 and a mapped RTC register the range is banked RAM. -/
theorem externalRam : Obligations.ExternalRam := by
  unfold Obligations.ExternalRam
  intro x v s lo hi mbc2 noRtc
  have rtc := rtcMapped_none noRtc
  have cell := region_of_extRam lo hi
  have read : busRead x s = s.cart.bankedRead x.toNat := by
    simp only [busRead, cell, ramRead_banked mbc2 rtc]
  have write : busWrite x v s = { s with cart := s.cart.bankedWrite x.toNat v } := by
    simp only [busWrite, cell, ramWrite_banked mbc2 rtc]
  have on := ramOn_iff s.cart
  refine ⟨fun closed => ?_, fun enabled banks => ?_⟩
  · have shut : s.cart.ramOn = false ∨ s.cart.nram = 0 := by
      refine closed.imp (fun off => ?_) id
      rw [← Bool.not_eq_true, on]
      exact fun c => c.elim off.1 fun e => absurd (off.2.symm.trans e) (by decide)
    rw [read, write, Cartridge.bankedRead, Cartridge.bankedWrite, if_pos shut, if_pos shut]
    exact ⟨rfl, rfl⟩
  · have opened : ¬(s.cart.ramOn = false ∨ s.cart.nram = 0) := by
      rintro (off | none')
      · exact absurd (off.symm.trans (on.2 enabled)) (by decide)
      · exact banks none'
    refine ⟨?_, read.trans (if_neg opened)⟩
    rw [write, Cartridge.bankedWrite, if_neg opened]
    simp only [busRead, cell]
    refine (ramRead_banked (k := { s.cart with ram := memWrite s.cart.ram (s.cart.ramIndex x.toNat) v }) mbc2 rtc _).trans ?_
    exact (if_neg opened).trans (memRead_memWrite_self _ _ _)

end Sys2Proof.Machine

/-! PROOFS. The devices: the timer (R441, R442), the serial unit (R450..R452), OAM DMA (R461) and the joypad (R56,
R473). -/

namespace Sys2Proof.Machine

/-! ### The timer -/

/-- TAC's low two bits select the period (R51). -/
theorem timaPeriod_select (tac : BitVec 3) : (tac.extractLsb' 0 2).toNat = tac.toNat % 4 := by simp

/-- With the timer on, the step adds `c` T-cycles to the accumulator and makes one increment for each period in it. -/
theorem timerStep_on {t : Timer} (on : t.tac.getLsbD 2 = true) (c : Nat) :
    ∃ u : Timer, timerStep c t = timaIncrements ((t.timaAcc + c) / timaPeriod t.tac) u ∧
      u.tima = t.tima ∧ u.tma = t.tma ∧ u.timaAcc = (t.timaAcc + c) % timaPeriod t.tac :=
  ⟨_, if_pos on, rfl, rfl, rfl⟩

theorem timerStep_off {t : Timer} (off : t.tac.getLsbD 2 = false) (c : Nat) :
    timerStep c t = ({ t with divCounter := t.divCounter + BitVec.ofNat 16 c }, 0) :=
  if_neg (by rw [off]; exact Bool.false_ne_true)

theorem tima_succ_toNat {x : Byte} (h : ¬x = 0xFF#8) : (x + 1).toNat = x.toNat + 1 := by bv_omega

/-- An increment of a full TIMA reloads it and requests the interrupt (R442). -/
theorem timaIncrements_full {t : Timer} (full : t.tima = 0xFF#8) (n : Nat) :
    timaIncrements (n + 1) t = ((timaIncrements n { t with tima := t.tma }).1,
      0x04#5 ||| (timaIncrements n { t with tima := t.tma }).2) := by
  simp only [timaIncrements, timaIncrement, if_pos full]

/-- Every other increment adds 1 and requests nothing. -/
theorem timaIncrements_notFull {t : Timer} (h : ¬t.tima = 0xFF#8) (n : Nat) :
    timaIncrements (n + 1) t = timaIncrements n { t with tima := t.tima + 1 } := by
  simp only [timaIncrements, timaIncrement, if_neg h]
  exact Prod.ext rfl BitVec.zero_or

/-- Increments request nothing but the Timer interrupt. -/
theorem timaIncrements_request (n : Nat) (t : Timer) : (0x04#5) ||| (timaIncrements n t).2 = 0x04#5 := by
  induction n generalizing t with
  | zero => exact BitVec.or_zero
  | succ n ih =>
    by_cases full : t.tima = 0xFF#8
    · rw [timaIncrements_full full, ih, BitVec.or_self]
    · rw [timaIncrements_notFull full, ih]

/-- As many increments as TIMA has room for add up. -/
theorem timaIncrements_below {n : Nat} {t : Timer} (room : t.tima.toNat + n ≤ 255) :
    (timaIncrements n t).1.tima.toNat = t.tima.toNat + n ∧ (timaIncrements n t).2 = 0 := by
  induction n generalizing t with
  | zero => exact ⟨rfl, rfl⟩
  | succ n ih =>
    have notFull : ¬t.tima = 0xFF#8 := by bv_omega
    have next := tima_succ_toNat notFull
    obtain ⟨value, request⟩ := ih (t := { t with tima := t.tima + 1 }) (by simp only [next]; omega)
    rw [timaIncrements_notFull notFull, value, request]
    exact ⟨by simp only [next]; omega, rfl⟩

/-- Past the first overflow the increments go on from TMA, and the interrupt is requested. -/
theorem timaIncrements_overflow {n : Nat} {t : Timer} (past : 255 < t.tima.toNat + n) :
    timaIncrements n t =
      ((timaIncrements (t.tima.toNat + n - 256) { t with tima := t.tma }).1, 0x04#5) := by
  induction n generalizing t with
  | zero => exact absurd t.tima.isLt (by omega)
  | succ n ih =>
    by_cases full : t.tima = 0xFF#8
    · have left : t.tima.toNat + (n + 1) - 256 = n := by rw [full]; simp; omega
      rw [timaIncrements_full full, timaIncrements_request, left]
    · have next := tima_succ_toNat full
      have left : (t.tima + 1).toNat + n - 256 = t.tima.toNat + (n + 1) - 256 := by omega
      rw [timaIncrements_notFull full, ih (t := { t with tima := t.tima + 1 }) (by simp only [next]; omega), left]

/-- Settles O46: the increments add up to the first overflow and go on from TMA after it. -/
theorem timaCountsAndReloads : Obligations.TimaCountsAndReloads := by
  unfold Obligations.TimaCountsAndReloads
  intro c s
  rw [stepTimer_eq]
  refine ⟨fun off => ?_, fun on N n hN hn => ?_⟩
  · rw [timerStep_off off]
    exact ⟨rfl, BitVec.or_zero⟩
  · have period : N = timaPeriod s.timer.tac := by
      rw [timaPeriod, timaPeriod_select]
      exact hN
    obtain ⟨u, run, tima, tma, acc⟩ := timerStep_on on c
    rw [← period, ← hn] at run
    rw [run, ← tima, ← tma]
    refine ⟨(timaIncrements_timaAcc n u).trans (period ▸ acc), fun room => ?_, fun past => ?_⟩
    · obtain ⟨value, request⟩ := timaIncrements_below room
      rw [request]
      exact ⟨value, BitVec.or_zero⟩
    · rw [timaIncrements_overflow past]
      refine ⟨rfl, fun room => ?_⟩
      rw [Nat.add_comm _ u.tma.toNat] at room ⊢
      obtain ⟨value, -⟩ := timaIncrements_below (t := { u with tima := u.tma }) room
      dsimp only at value ⊢
      exact value

/-! ### The serial unit -/

/-- SC shows its bits 7 and 0, the others as 1 (R54). -/
theorem readSc_bit : ∀ a b : Bool, ∀ i < 8,
    bit (0x7E#8 ||| (if a then 0x80#8 else 0) ||| (if b then 0x01#8 else 0)) i =
      if i = 7 then a else if i = 0 then b else true := by
  decide

theorem serialStep_idle {u : Serial} (h : ¬(u.sc7 = true ∧ u.sc0 = true)) (c : Nat) :
    serialStep c u = (u, ⟨0, none⟩) := if_neg h

theorem serialStep_counts {u : Serial} (h : u.sc7 = true ∧ u.sc0 = true) {c : Nat} (short : u.serialAcc + c < 4096) :
    serialStep c u = ({ u with serialAcc := u.serialAcc + c }, ⟨0, none⟩) :=
  (if_pos h).trans (if_neg (Nat.not_le.2 short))

theorem serialStep_completes {u : Serial} (h : u.sc7 = true ∧ u.sc0 = true) {c : Nat}
    (long : 4096 ≤ u.serialAcc + c) :
    serialStep c u = ({ u with sb := 0xFF, sc7 := false, serialAcc := 0 }, ⟨0x08, some u.sb⟩) :=
  (if_pos h).trans (if_pos long)

/-- A serial step that completes no transfer changes the unit only. -/
theorem stepSerial_quiet {c : Nat} {s : State} {u : Serial} (h : serialStep c s.serial = (u, ⟨0, none⟩)) :
    stepSerial c s = { s with serial := u } := by
  have same : s.ifReg ||| 0 = s.ifReg := BitVec.or_zero
  simp only [stepSerial, h, requestInterrupt, same]

/-- Settles O47: by the three cases of the serial step. -/
theorem serialTransferCompletes : Obligations.SerialTransferCompletes := by
  unfold Obligations.SerialTransferCompletes
  intro c v s
  have sb : region 0xFF01 = .io .sb := by decide
  have sc : region 0xFF02 = .io .sc := by decide
  refine ⟨⟨?_, ?_⟩, ⟨?_, ?_⟩, fun idle => ?_, fun sc7 sc0 short => ?_, fun sc7 sc0 long => ?_⟩
  · simp only [busRead, sb, ioRead]
  · simp only [busWrite, sb, ioWrite]
  · simp only [busWrite, sc, ioWrite, Serial.writeSc]
  · simp only [busRead, sc, ioRead]
    exact readSc_bit s.serial.sc7 s.serial.sc0
  · exact stepSerial_quiet (serialStep_idle idle c)
  · exact stepSerial_quiet (serialStep_counts ⟨sc7, sc0⟩ short)
  · simp only [stepSerial, serialStep_completes ⟨sc7, sc0⟩ long, requestInterrupt, sc0]

/-! ### OAM DMA -/

/-- The source address of byte `k`: the page's byte `k` (R461). -/
theorem pair_ofNat (page : Byte) {k : Nat} (h : k < 256) :
    pair page (BitVec.ofNat 8 k) = BitVec.ofNat 16 (page.toNat * 256 + k) := by
  refine BitVec.eq_of_toNat_eq ?_
  rw [pair_toNat]
  simp only [BitVec.toNat_ofNat]
  omega

/-- While a transfer is active OAM is closed to the bus, so the bytes copied and the engine's counters show in no
read. -/
theorem busRead_duringDma {s : State} (active : s.dma.active = true) (x : Word) (oam : Mem 8) (i a : Nat) :
    busRead x { s with ppu := { s.ppu with oam := oam }, dma := ⟨s.dma.src, true, i, a⟩ } = busRead x s := by
  simp only [busRead]
  cases region x with
  | oam j => simp only [oamBlocked, active, Bool.true_or, if_true]
  | io r => cases r <;> rfl
  | _ => rfl

theorem dmaLoop_inactive {s : State} (h : s.dma.active = false) (n : Nat) : dmaLoop n s = s := by
  cases n with
  | zero => rfl
  | succ n => exact if_neg (by simp [h])

theorem dmaLoop_copies {n : Nat} {s : State} (active : s.dma.active = true) (more : 4 ≤ s.dma.acc) :
    dmaLoop (n + 1) s = dmaLoop n (dmaCopy s) := if_pos ⟨more, active⟩

/-- One pass that is not the last: byte `index` of OAM is its source byte. -/
theorem dmaCopy_oam {s : State} (below : s.dma.index < 160) (k : Nat) :
    memRead (dmaCopy s).ppu.oam k =
      if k = s.dma.index then busRead (BitVec.ofNat 16 (s.dma.src.toNat * 256 + s.dma.index)) s
      else memRead s.ppu.oam k := by
  rw [dmaCopy_eq]
  simp only [dmaIndex_mod _ below, pair_ofNat _ (Nat.lt_trans below (by decide : 160 < 256)), memRead_memWrite]

/-- The whole DMA loop: it copies `n` bytes, or what is left of the 160. -/
theorem dmaLoop_run (n : Nat) (s : State) (active : s.dma.active = true) (below : s.dma.index < 160)
    (passes : n = s.dma.acc / 4) :
    (dmaLoop n s).dma = (if s.dma.index + n < 160
      then ⟨s.dma.src, true, s.dma.index + n, s.dma.acc % 4⟩ else ⟨s.dma.src, false, 160, 0⟩) ∧
    ∀ k, k < 160 → memRead (dmaLoop n s).ppu.oam k =
      if s.dma.index ≤ k ∧ k < s.dma.index + n
      then busRead (BitVec.ofNat 16 (s.dma.src.toNat * 256 + k)) s else memRead s.ppu.oam k := by
  induction n generalizing s with
  | zero =>
    have rest : s.dma.acc % 4 = s.dma.acc := by omega
    refine ⟨?_, fun k _ => by rw [if_neg (by omega)]; rfl⟩
    rw [Nat.add_zero, if_pos below, rest, ← active]
    rfl
  | succ n ih =>
    have copied := dmaCopy_oam below
    rw [dmaLoop_copies active (by omega)]
    by_cases last : s.dma.index + 1 = 160
    · have stop : (dmaCopy s).dma = ⟨s.dma.src, false, 160, 0⟩ := by
        rw [dmaCopy_eq]; simp only [last, if_true]
      rw [dmaLoop_inactive (by rw [stop]), if_neg (by omega)]
      refine ⟨stop, fun k hk => ?_⟩
      rw [copied]
      by_cases here : k = s.dma.index
      · rw [if_pos here, if_pos (by omega), here]
      · rw [if_neg here, if_neg (by omega)]
    · have go : (dmaCopy s).dma = ⟨s.dma.src, true, s.dma.index + 1, s.dma.acc - 4⟩ := by
        rw [dmaCopy_eq]; simp only [if_neg last, active]
      have same (x : Word) : busRead x (dmaCopy s) = busRead x s := by
        have := busRead_duringDma active x (dmaCopy s).ppu.oam (s.dma.index + 1) (s.dma.acc - 4)
        rw [← this, ← go, dmaCopy_eq]
      obtain ⟨engine, bytes⟩ := ih (dmaCopy s) (by rw [go]) (by rw [go]; simp only; omega) (by rw [go]; simp only; omega)
      have rest : (s.dma.acc - 4) % 4 = s.dma.acc % 4 := by omega
      simp only [go, Nat.add_assoc, Nat.add_comm 1 n, rest] at engine bytes
      refine ⟨engine, fun k hk => ?_⟩
      rw [bytes k hk, same, copied]
      by_cases here : k = s.dma.index
      · rw [if_neg (by omega), if_pos here, if_pos (by omega), here]
      · rw [if_neg here]
        exact if_congr (by omega) rfl rfl

/-- Settles O48: by induction on the passes of the loop; OAM being closed, no pass changes what a later one reads. -/
theorem oamDmaCopies : Obligations.OamDmaCopies := by
  unfold Obligations.OamDmaCopies
  intro c v s
  refine ⟨?_, fun idle => if_neg (by simp [idle]), fun active below n hn => ?_⟩
  · have cell : region 0xFF46 = .io .dma := by decide
    simp only [busWrite, cell, ioWrite]
  · have run : stepDma c s = dmaLoop n { s with dma := { s.dma with acc := s.dma.acc + c } } := by
      rw [hn]; exact if_pos active
    obtain ⟨engine, bytes⟩ := dmaLoop_run n { s with dma := { s.dma with acc := s.dma.acc + c } } active below hn
    rw [run]
    refine ⟨engine, fun k hk => (bytes k hk).trans ?_⟩
    have same := busRead_duringDma active (BitVec.ofNat 16 (s.dma.src.toNat * 256 + k)) s.ppu.oam s.dma.index
      (s.dma.acc + c)
    rw [← active] at same
    simp only [same]

/-! ### The joypad -/

theorem byte_eq_zero_iff (x : Byte) : x = 0 ↔ ∀ i < 8, bit x i = false := by
  constructor
  · rintro rfl i _
    exact BitVec.getLsbD_zero
  · exact fun h => BitVec.eq_of_getLsbD_eq fun i hi => (h i hi).trans BitVec.getLsbD_zero.symm

/-- The buttons of the selected rows (R473). -/
theorem selected_bit : ∀ a b : Bool, ∀ i < 8,
    bit ((if a then 0x00 else 0xF0) ||| (if b then 0x00 else 0x0F)) i = !(if i < 4 then b else a) := by
  decide

/-- P1's low bits: a pressed button of a selected row reads 0 (R56). -/
theorem readP1_bit (j : Joypad) {i : Nat} (h : i < 4) :
    bit j.readP1 i = !(!j.p1Select.getLsbD 0 && bit j.pressed (i + 4) || !j.p1Select.getLsbD 1 && bit j.pressed i) := by
  unfold Joypad.readP1
  cases j.p1Select.getLsbD 0 <;> cases j.p1Select.getLsbD 1 <;> interval_cases i <;> simp [bit]

/-- The bits of the buttons that are newly pressed in a selected row. -/
def Joypad.rising (j : Joypad) (buttons : Byte) : Byte :=
  buttons &&& ~~~j.pressed &&& ((if j.p1Select.getLsbD 0 then 0x00 else 0xF0) |||
    (if j.p1Select.getLsbD 1 then 0x00 else 0x0F))

theorem rising_bit (j : Joypad) (buttons : Byte) {i : Nat} (h : i < 8) :
    bit (j.rising buttons) i = true ↔
      bit buttons i = true ∧ bit j.pressed i = false ∧ j.p1Select.getLsbD (if i < 4 then 1 else 0) = false := by
  have row := selected_bit (j.p1Select.getLsbD 0) (j.p1Select.getLsbD 1) i h
  have split : bit (j.rising buttons) i = (bit buttons i && !bit j.pressed i && bit ((if j.p1Select.getLsbD 0 then 0x00
      else 0xF0) ||| (if j.p1Select.getLsbD 1 then 0x00 else 0x0F)) i) := by
    simp only [bit, Joypad.rising, BitVec.getLsbD_and, BitVec.getLsbD_not, h, decide_true, Bool.true_and]
  rw [split, row]
  by_cases low : i < 4 <;> simp [low, and_assoc]

/-- The poll requests the interrupt when a bit rises (R473). -/
theorem joypadPoll_request (buttons : Byte) (j : Joypad) :
    (joypadPoll buttons j).2 = if j.rising buttons = 0 then 0 else 0x10 := rfl

theorem requested_iff (x : Byte) : (if x = 0 then (0 : BitVec 5) else 0x10) = 0x10 ↔ ¬x = 0 := by
  by_cases h : x = 0
  · rw [if_pos h]
    exact iff_of_false (by decide) (not_not_intro h)
  · rw [if_neg h]
    exact iff_of_true rfl h

/-- Settles O49: bit by bit. -/
theorem joypadPollAndRead : Obligations.JoypadPollAndRead := by
  unfold Obligations.JoypadPollAndRead
  intro buttons j
  refine ⟨rfl, ?_, ?_, fun i hi => ?_⟩
  · rw [joypadPoll_request, requested_iff, byte_eq_zero_iff]
    simp only [not_forall, Bool.not_eq_false, exists_prop]
    exact exists_congr fun i => and_congr_right fun hi => rising_bit j buttons hi
  · rw [joypadPoll_request]
    exact (ite_eq_or_eq _ _ _).symm
  · rw [readP1_bit j hi]
    cases j.p1Select.getLsbD 0 <;> cases j.p1Select.getLsbD 1 <;> simp [or_iff_not_imp_left]

end Sys2Proof.Machine

/-! PROOFS. The PPU: the LCD switch (R510), the entry to VBLANK (R515, R516) and the OAM scan (R502). -/

namespace Sys2Proof.Machine

/-! ### The LCD switch -/

theorem writeLcdc_off {p : Ppu} (on : p.lcdOn = true) {v : Byte} (off : bit v 7 = false) :
    p.writeLcdc v = { p with lcdc := v, fbCur := [], ly := 0, mode := .hblank, lineCycles := 0, winActive := false,
                             coincidence := 0 == p.lyc } :=
  if_pos ⟨on, off⟩

theorem writeLcdc_on {p : Ppu} (off : p.lcdOn = false) {v : Byte} (on : bit v 7 = true) :
    p.writeLcdc v = { p with lcdc := v, mode := .oamScan, ly := 0, lineCycles := 0, winActive := false, winLine := 0,
                             coincidence := 0 == p.lyc } :=
  (if_neg (by simp [off])).trans (if_pos ⟨off, on⟩)

theorem writeLcdc_same {p : Ppu} {v : Byte} (same : p.lcdOn = bit v 7) : p.writeLcdc v = { p with lcdc := v } :=
  (if_neg (by simp [same])).trans (if_neg (by simp [same]))

/-- Line 0 coincides with LYC exactly when LYC is 0 (R513). -/
theorem lineZero_eq_lyc (lyc : Byte) : (0 == lyc) = decide (lyc = 0) := by
  rw [beq_eq_decide]
  exact decide_eq_decide.2 eq_comm

/-- Settles O50: by the three cases of the LCDC write. -/
theorem lcdSwitch : Obligations.LcdSwitch := by
  unfold Obligations.LcdSwitch
  intro v s
  have cell : region 0xFF40 = .io .lcdc := by decide
  have write : busWrite 0xFF40 v s = { s with ppu := s.ppu.writeLcdc v } := by simp only [busWrite, cell, ioWrite]
  rw [write]
  refine ⟨fun on off => ?_, fun off on => ?_, fun same => ?_, fun off c => ?_⟩
  · rw [writeLcdc_off on off, lineZero_eq_lyc]
  · rw [writeLcdc_on off on, lineZero_eq_lyc]
  · rw [writeLcdc_same same]
  · have none : s.ifReg ||| 0 = s.ifReg := BitVec.or_zero
    rw [stepPpu_eq, ppuStep_off off]
    simp only [none]

/-! ### The entry to VBLANK -/

theorem dot_lineEnd {p : Ppu} (mode : p.mode = .hblank) (last : 455 ≤ p.lineCycles) (d : Nat) :
    Ppu.dot d p = Ppu.endLine { p with lineCycles := 0 } := by
  have full : 456 ≤ p.lineCycles + 1 := Nat.succ_le_succ last
  simp only [Ppu.dot, mode, ge_iff_le, if_pos full]

theorem endLine_last {p : Ppu} (last : 143 ≤ p.ly.toNat) : p.endLine = p.enterVblank := if_neg (Nat.not_lt.2 last)

/-- Bits 0 and 1 of what the entry to VBLANK requests: VBlank, and STAT by either select (R513, R516). -/
theorem vblankRequest_bits : ∀ vblankSel lycSel coincide : Bool,
    let r : BitVec 5 := 0x01 ||| (if vblankSel then 0x02 else 0) ||| (if coincide && lycSel && true then 0x02 else 0)
    r.getLsbD 0 = true ∧ r.getLsbD 1 = (vblankSel || (lycSel && coincide)) := by
  decide

/-- Settles O51: the dot that completes the line ends it, and from LY 143 on that enters VBLANK. -/
theorem vblankEntry : Obligations.VblankEntry := by
  unfold Obligations.VblankEntry
  intro d p mode last line
  refine ⟨_, _, (dot_lineEnd mode last d).trans (endLine_last line), rfl, rfl, rfl, rfl, rfl, rfl, rfl, ?_, ?_⟩
  · exact beq_eq_decide ..
  · rw [← beq_eq_decide]
    exact vblankRequest_bits _ _ _

/-! ### The OAM scan -/

/-- The order of the scan: by X, and of equal X by OAM index (R502). -/
def Sprite.Before (s t : Sprite) : Prop := s.x.toNat < t.x.toNat ∨ s.x.toNat = t.x.toNat ∧ s.index < t.index

theorem insertSprite_perm (s : Sprite) (l : List Sprite) : (insertSprite s l).Perm (s :: l) := by
  induction l with
  | nil => exact .refl _
  | cons t l ih =>
    unfold insertSprite
    split
    · exact .refl _
    · exact (ih.cons t).trans (.swap s t l)

/-- A sprite behind the others in OAM goes to its place in a list in scan order. -/
theorem insertSprite_pairwise {s : Sprite} {l : List Sprite} (behind : ∀ t ∈ l, t.index < s.index)
    (sorted : l.Pairwise Sprite.Before) : (insertSprite s l).Pairwise Sprite.Before := by
  induction l with
  | nil => exact List.pairwise_singleton _ _
  | cons t l ih =>
    obtain ⟨first, rest⟩ := List.pairwise_cons.1 sorted
    unfold insertSprite
    split
    next less =>
      refine List.pairwise_cons.2 ⟨fun u hu => .inl ?_, sorted⟩
      rcases List.mem_cons.1 hu with rfl | hu
      · exact less
      · have := first u hu
        unfold Sprite.Before at this
        omega
    next notLess =>
      refine List.pairwise_cons.2 ⟨fun u hu => ?_, ih (fun u hu => behind u (.tail _ hu)) rest⟩
      rcases List.mem_cons.1 ((insertSprite_perm s l).mem_iff.1 hu) with rfl | hu
      · have := behind t (.head _)
        unfold Sprite.Before
        omega
      · exact first u hu

/-- Sorting sprites given in OAM order puts them in scan order and drops none. -/
theorem sortSprites_spec {l : List Sprite} (oamOrder : l.Pairwise fun s t => s.index < t.index) :
    (sortSprites l).Perm l ∧ (sortSprites l).Pairwise Sprite.Before := by
  induction l using List.reverseRecOn with
  | nil => exact ⟨.refl _, .nil⟩
  | append_singleton l s ih =>
    obtain ⟨front, -, behind⟩ := List.pairwise_append.1 oamOrder
    obtain ⟨perm, sorted⟩ := ih front
    have last : sortSprites (l ++ [s]) = insertSprite s (sortSprites l) := List.foldl_concat ..
    rw [last]
    exact ⟨(insertSprite_perm s _).trans ((perm.cons s).trans (List.perm_append_singleton s l).symm),
      insertSprite_pairwise (fun t ht => behind t (perm.mem_iff.1 ht) s (List.mem_singleton_self s)) sorted⟩

/-- The records on the current line, in OAM order. -/
def Ppu.lineRecords (p : Ppu) : List Sprite := ((List.range 40).map p.oamRecord).filter p.onLine

theorem mem_lineRecords {p : Ppu} {s : Sprite} :
    s ∈ p.lineRecords ↔ (∃ k < 40, p.oamRecord k = s) ∧ p.onLine s = true := by
  simp only [Ppu.lineRecords, List.mem_filter, List.mem_map, List.mem_range]

theorem lineRecords_oamOrder (p : Ppu) : p.lineRecords.Pairwise fun s t => s.index < t.index :=
  List.Pairwise.filter _ (List.pairwise_map.2 List.pairwise_lt_range)

/-- The scan holds the first ten records on the line, sorted. -/
theorem oamScan_spec (p : Ppu) :
    p.oamScan.Perm (p.lineRecords.take 10) ∧ p.oamScan.Pairwise Sprite.Before :=
  sortSprites_spec ((lineRecords_oamOrder p).take)

/-- In OAM order, a member that is not among the first `n` has `n` members before it. -/
theorem take_of_not_mem {l : List Sprite} (oamOrder : l.Pairwise fun s t => s.index < t.index) {n : Nat} {t : Sprite}
    (mem : t ∈ l) (left : t ∉ l.take n) : (l.take n).length = n ∧ ∀ s ∈ l.take n, s.index < t.index := by
  rw [← List.take_append_drop n l] at mem oamOrder
  have later : t ∈ l.drop n := (List.mem_append.1 mem).resolve_left left
  have long := List.length_pos_of_mem later
  rw [List.length_drop] at long
  exact ⟨List.length_take_of_le (by omega),
    fun s hs => (List.pairwise_append.1 oamOrder).2.2 s hs t later⟩

/-- Settles O52: the scan is a sorted permutation of the first ten records on the line. -/
theorem oamScanSelectsAndSorts : Obligations.OamScanSelectsAndSorts := by
  unfold Obligations.OamScanSelectsAndSorts
  intro p
  obtain ⟨perm, sorted⟩ := oamScan_spec p
  refine ⟨oamScan_length p, fun s hs => ?_, sorted, fun k hk onLine => ?_⟩
  · obtain ⟨⟨k, hk, rfl⟩, onLine⟩ := mem_lineRecords.1 (List.mem_of_mem_take (perm.mem_iff.1 hs))
    obtain ⟨low, high⟩ := of_decide_eq_true onLine
    exact ⟨hk, rfl, low, high⟩
  · have mem : p.oamRecord k ∈ p.lineRecords := mem_lineRecords.2 ⟨⟨k, hk, rfl⟩, onLine⟩
    by_cases taken : p.oamRecord k ∈ p.lineRecords.take 10
    · exact .inl (perm.mem_iff.2 taken)
    · obtain ⟨ten, before⟩ := take_of_not_mem (lineRecords_oamOrder p) mem taken
      exact .inr ⟨perm.length_eq.trans ten, fun s hs => before s (perm.mem_iff.1 hs)⟩

end Sys2Proof.Machine

/-! PROOFS. The fixed words of the decoder (R162..R169), the reset state (R31, R600..R604) and the invariants at reset. -/

namespace Sys2Proof.Machine

/-- Settles O3: each word is decoded. -/
theorem decodedWords : Obligations.DecodedWords := by
  unfold Obligations.DecodedWords
  decide

/-- Settles O53: each register of the two columns is read off. -/
theorem resetRegisters : Obligations.ResetRegisters := by
  unfold Obligations.ResetRegisters
  decide

/-- Writes `ws` to the audio registers, made in the APU stub. -/
def apuWrites (ws : List (Word × Byte)) (m : Mem 8) : Mem 8 :=
  ws.foldl (fun m w => memWrite m (w.1.toNat - 0xFF10) w.2) m

/-- Cold-start writes to the audio registers change the APU stub only. -/
theorem coldStart_apu {ws : List (Word × Byte)} (audio : ∀ w ∈ ws, 0xFF10 ≤ w.1.toNat ∧ w.1.toNat ≤ 0xFF3F)
    (s : State) : coldStart ws s = { s with apu := apuWrites ws s.apu } := by
  induction ws generalizing s with
  | nil => rfl
  | cons w ws ih =>
    obtain ⟨lo, hi⟩ := audio w (.head _)
    have cell : region w.1 = .io (.apu (w.1.toNat - 0xFF10)) := by
      rw [region_of_io (by omega) (by omega), ioReg]
      simp only [lo, hi, and_self, if_true]
      repeat rw [if_neg (by omega)]
    have write : busWrite w.1 w.2 s = { s with apu := memWrite s.apu (w.1.toNat - 0xFF10) w.2 } := by
      simp only [busWrite, cell, ioWrite]
    exact (congrArg (coldStart ws) write).trans (ih (fun v hv => audio v (.tail _ hv)) _)

theorem coldStart_append (l m : List (Word × Byte)) (s : State) :
    coldStart (l ++ m) s = coldStart m (coldStart l s) := List.foldl_append

/-- The table's writes to the two pulse channels and the wave channel. -/
def channelWrites : List (Word × Byte) :=
  [(0xFF10, 0x80), (0xFF11, 0xBF), (0xFF12, 0xF3), (0xFF14, 0xBF), (0xFF16, 0x3F), (0xFF17, 0x00), (0xFF19, 0xBF),
   (0xFF1A, 0x7F), (0xFF1B, 0xFF), (0xFF1C, 0x9F), (0xFF1E, 0xBF)]

/-- The table's writes to the noise channel and the sound control. -/
def noiseAndControlWrites : List (Word × Byte) :=
  [(0xFF20, 0xFF), (0xFF21, 0x00), (0xFF22, 0x00), (0xFF23, 0xBF), (0xFF24, 0x77), (0xFF25, 0xF3), (0xFF26, 0xF1)]

/-- The table's writes to TAC, LCDC, STAT and BGP. -/
def timerAndVideoWrites : List (Word × Byte) :=
  [(0xFF07, 0xF8), (0xFF40, 0x91), (0xFF41, 0x85), (0xFF47, 0xFC)]

theorem defaultColdStart_eq :
    defaultColdStart = channelWrites ++ noiseAndControlWrites ++ timerAndVideoWrites := rfl

set_option maxRecDepth 4000 in
/-- What the audio writes leave in the empty APU stub. -/
theorem apuWrites_default :
    apuWrites noiseAndControlWrites (apuWrites channelWrites State.coldColumn.apu) = State.reset.apu := by
  decide

/-- Settles O54: the audio writes fill the APU stub, the other four set TAC, LCDC, STAT and BGP. -/
theorem coldStartGivesReset : Obligations.ColdStartGivesReset := by
  unfold Obligations.ColdStartGivesReset
  refine ⟨?_, by decide⟩
  rw [defaultColdStart_eq, coldStart_append, coldStart_append, coldStart_apu (ws := channelWrites) (by simp [channelWrites]),
    coldStart_apu (ws := noiseAndControlWrites) (by simp [noiseAndControlWrites]), apuWrites_default]
  rfl

/-- Settles O55: each predicate is decided on the reset state. -/
theorem resetMeetsInvariants : Obligations.ResetMeetsInvariants := by
  unfold Obligations.ResetMeetsInvariants
  decide

end Sys2Proof.Machine
